-- ==== Sys2Proof/Word.lean ====
section
/-! DEFINITION. The word types of the MZ framer (00_scope.md R8: all values are unsigned). -/

namespace Sys2Proof

/-- A byte, 0 to 255 (R8). -/
abbrev Byte := BitVec 8

/-- A 16-bit value: DIST, the INIT registers, a millisecond count (R34, R48, R53). -/
abbrev Half := BitVec 16

/-- A 32-bit value: `req_word`, `req_value`, `rsp_value` (R50, R51). -/
abbrev Word := BitVec 32

/-- A 7-bit bus address (R60). -/
abbrev BusAddr := BitVec 7

end Sys2Proof
end

