-- ==== Sys2Proof/Config.lean ====
section
/-! DEFINITION. The implementation parameters of 00_scope.md R6, the constraints of R7, the test
configuration TESTCFG of 95_test_vectors.md, and the model's one free value. -/

namespace Sys2Proof

/-- The wire command ids CMD_* (30_encoding.md R95), all OPEN. -/
structure CommandIds where
  move : Byte
  spin : Byte
  stop : Byte
  gradualStop : Byte
  ledAll : Byte
  ledOne : Byte
  ledBrightness : Byte
  indicator : Byte
  brakeLight : Byte
  lineSensor : Byte
  frontDistance : Byte
  autoCliff : Byte
  errorRead : Byte
  completionRead : Byte
  commsReset : Byte
  version : Byte
  startKey : Byte
deriving DecidableEq, Repr

/-- Every CMD_* value, in the order of R95. -/
def CommandIds.all (c : CommandIds) : List Byte :=
  [c.move, c.spin, c.stop, c.gradualStop, c.ledAll, c.ledOne, c.ledBrightness, c.indicator,
   c.brakeLight, c.lineSensor, c.frontDistance, c.autoCliff, c.errorRead, c.completionRead,
   c.commsReset, c.version, c.startKey]

/-- The ErrorCode byte values E_* with their defaults (30_encoding.md R93). -/
structure ErrorCodes where
  eNone : Byte := 0x00
  eTimeout : Byte := 0x01
  eTxChecksum : Byte := 0x02
  eUnknownCommand : Byte := 0x03
  eInvalidData : Byte := 0x04
  eReadError : Byte := 0x05
  eRxChecksum : Byte := 0x06
  eRxCommand : Byte := 0x07
  eStartKey : Byte := 0x08
  eCliff : Byte := 0x09
deriving DecidableEq, Repr

/-- The parameters of R6 with the defaults R6 gives. P_DEV_ADDR, CMD_* and P_CLIFF_MASK are OPEN
and have none. RX_LEN(cmd) is two fields, its value for CMD_FRONT_DISTANCE and its value otherwise
(log 16). -/
structure Config where
  /-- P_DEV_ADDR -/
  devAddr : BusAddr
  /-- P_CLIFF_MASK -/
  cliffMask : Byte
  /-- CMD_* -/
  cmd : CommandIds
  /-- E_* -/
  code : ErrorCodes := {}
  /-- P_MAX_RETRIES, 8 bits -/
  maxRetries : Byte := 3
  /-- P_LEN_BIAS -/
  lenBias : Nat := 2
  /-- P_BACKOFF_ABSENT_MS -/
  backoffAbsentMs : Half := 20
  /-- P_BACKOFF_ERROR_MS -/
  backoffErrorMs : Half := 20
  /-- P_CLIFF_POLL_MS -/
  cliffPollMs : Half := 20
  /-- P_CLIFF_CLEAR_PAUSE_MS; 0 means no pause -/
  cliffClearPauseMs : Half := 0
  /-- P_COMPLETION_POLL_MS -/
  completionPollMs : Half := 10
  /-- P_MAX_OPERAND -/
  maxOperand : Nat := 16
  /-- P_PROTOCOL_FAIL_COUNTS -/
  protocolFailCounts : Bool := true
  /-- P_CLIFF_CLEAR_COUNT -/
  cliffClearCount : Nat := 3
  /-- P_START_KEY_PARAMS -/
  startKeyParams : List Byte := []
  /-- P_LE_WIDTH, the width in bits of the LEENC input value -/
  leWidth : Nat := 32
  /-- RX_LEN(CMD_FRONT_DISTANCE) -/
  rxLenDistance : Nat := 5
  /-- RX_LEN of every other command -/
  rxLenOther : Nat := 4
deriving DecidableEq, Repr

/-- No value stands twice in the list. -/
def allDistinct : List Byte → Bool
  | [] => true
  | b :: bs => !bs.contains b && allDistinct bs

/-- R6: "5 <= P_MAX_OPERAND <= 253". -/
def Config.capacityLegal (c : Config) : Bool :=
  decide (5 ≤ c.maxOperand) && decide (c.maxOperand ≤ 253)

/-- R7: P_MAX_OPERAND + P_LEN_BIAS <= 255, so that every length byte fits in 8 bits. -/
def Config.lengthLegal (c : Config) : Bool :=
  decide (c.maxOperand + c.lenBias ≤ 255)

/-- R6: P_CLIFF_MASK is "8-bit, exactly one bit set". -/
def Config.maskLegal (c : Config) : Bool :=
  (List.range 8).any fun k => c.cliffMask == 1#8 <<< k

/-- R6 (the row CMD_*): the command ids are pairwise distinct; those of R7 are among them. -/
def Config.idsLegal (c : Config) : Bool :=
  allDistinct c.cmd.all

/-- R7: E_NONE, E_START_KEY and E_CLIFF are pairwise distinct, and the locally generated codes are
distinct from these three. -/
def Config.codesLegal (c : Config) : Bool :=
  allDistinct [c.code.eNone, c.code.eStartKey, c.code.eCliff] &&
  [c.code.eReadError, c.code.eRxChecksum, c.code.eRxCommand].all fun b =>
    !(List.contains [c.code.eNone, c.code.eStartKey, c.code.eCliff] b)

/-- DEDUCED (log 6): the start-key frame is a frame the encoder builds, so its parameters keep the
encoder's bound (40_codec.md R113, 20_memory.md R67). -/
def Config.startKeyLegal (c : Config) : Bool :=
  decide (c.startKeyParams.length ≤ c.maxOperand)

/-- RX_LEN has the values 30_encoding.md R83 fixes ("4 or 5", 20_memory.md R67; R6 gives it the status
source). DEDUCED (log 6): R7 does not repeat it. -/
def Config.rxLenLegal (c : Config) : Bool :=
  decide (c.rxLenDistance = 5) && decide (c.rxLenOther = 4)

/-- The constraints a configuration must meet (R7 with the ranges of R6). A configuration that
breaks one has no meaning: `step` refuses it. -/
def Config.legal (c : Config) : Bool :=
  c.capacityLegal && c.lengthLegal && c.maskLegal && c.idsLegal && c.codesLegal && c.startKeyLegal &&
    c.rxLenLegal

/-- TESTCFG of 95_test_vectors.md section 0: the test values of the OPEN parameters, the defaults
for the rest. `State.reset` carries it (DESIGN CHOICE, log 1). -/
def Config.testcfg : Config where
  devAddr := 0x10
  cliffMask := 0x80
  cmd :=
    { move := 0x01, spin := 0x02, stop := 0x03, gradualStop := 0x04,
      ledAll := 0x05, ledOne := 0x06, ledBrightness := 0x07, indicator := 0x08, brakeLight := 0x09,
      lineSensor := 0x10, frontDistance := 0x11, autoCliff := 0x12,
      errorRead := 0x20, completionRead := 0x21, commsReset := 0x22, version := 0x23,
      startKey := 0x30 }

/-- FREE VALUE (log 7): what the 8-bit `rsp_n` holds when an operation returns more than 255 bytes
(ENCODE of 253 parameter bytes gives 256). The spec states no value, so nothing is known of this
constant; its argument is State's draw counter `freeCount`. -/
opaque Config.freeRspCount : Nat → Byte

end Sys2Proof
end

