-- ==== Sys2Proof/Machine/State.lean ====
section
/-! DEFINITION. The architectural state of 10_state.md as plain data, its reset (R55), and the reasons a
step can stop. -/

namespace Sys2Proof.Machine

open Sys2Proof

/-- STATE, the FSM state (R42). -/
inductive Phase where
  | idle | eWr | eRd | pWr | pRd | backoff | lWait | lWr | lRd | lPause | restart | cWait
  | iScan | iWr | iWait
deriving DecidableEq, Repr

/-- The 5-bit code of a FSM state (R42). Codes 15 to 31 are never taken. -/
def Phase.code : Phase → BitVec 5
  | .idle => 0 | .eWr => 1 | .eRd => 2 | .pWr => 3 | .pRd => 4 | .backoff => 5
  | .lWait => 6 | .lWr => 7 | .lRd => 8 | .lPause => 9 | .restart => 10 | .cWait => 11
  | .iScan => 12 | .iWr => 13 | .iWait => 14

/-- SEQ: which operation owns the current engine run (R44). -/
inductive Seq where
  | plain | txwTx | txwCmpl | cliff
deriving DecidableEq, Repr

/-- The 2-bit code of SEQ (R44). -/
def Seq.code : Seq → BitVec 2
  | .plain => 0 | .txwTx => 1 | .txwCmpl => 2 | .cliff => 3

/-- EDIR: the direction of an engine run (R46). -/
inductive Dir where
  | tx | rx
deriving DecidableEq, Repr

/-- The bit of EDIR: 0 = TX, 1 = RX (R46). -/
def Dir.code : Dir → BitVec 1
  | .tx => 0 | .rx => 1

/-- A result code (30_encoding.md R92). Codes 5 to 7 are never produced. -/
inductive Result where
  | ok | abandoned | fault | initFailed | refused
deriving DecidableEq, Repr

/-- The 3-bit code of a result (R92). -/
def Result.code : Result → BitVec 3
  | .ok => 0 | .abandoned => 1 | .fault => 2 | .initFailed => 3 | .refused => 4

/-- The status register file, the source's Device-State Cache (R31 to R39). -/
structure StatusFile where
  /-- ERR (R31) -/
  err : Byte
  /-- CMPL (R32) -/
  cmpl : Byte
  /-- LINE (R33) -/
  line : Byte
  /-- DIST (R34) -/
  dist : Half
  /-- CLIFF_RAW (R35) -/
  cliffRaw : Bool
  /-- CLIFF_CNT (R36) -/
  cliffCnt : BitVec 2
  /-- CLIFF_FILT (R37) -/
  cliffFilt : Bool
  /-- VERSION (R38) -/
  version : Byte
  /-- RESET_ACK (R39) -/
  resetAck : Byte
deriving DecidableEq, Repr

/-- The request latch REQ_OP, REQ_CMD, REQ_N, REQ_BYTES, REQ_VALUE (R45). -/
structure Latch where
  op : BitVec 4
  cmd : Byte
  n : Byte
  bytes : List Byte
  value : Word
deriving DecidableEq, Repr

/-- The engine request registers ECMD, EDIR, EFRAME, EFRAME_N (R46). -/
structure RunRegs where
  ecmd : Byte
  edir : Dir
  eframe : List Byte
  eframeN : Nat
deriving DecidableEq, Repr

/-- INIT's registers I_COUNT, I_RETRIES, I_DELAY (R48). -/
structure InitRegs where
  count : Half
  retries : Half
  delayMs : Half
deriving DecidableEq, Repr

/-- The request port as the caller drives it: req_valid, req_word, req_bytes, req_value (R50). A
byte the list does not hold reads 0 (log 12). -/
structure RequestPort where
  valid : Bool
  word : Word
  bytes : List Byte
  value : Word
deriving DecidableEq, Repr

/-- The response port: rsp_valid, rsp_result, rsp_n, rsp_bytes, rsp_value (R51). A byte the list does
not hold reads 0. -/
structure ResponsePort where
  valid : Bool
  result : Result
  n : Byte
  bytes : List Byte
  value : Word
deriving DecidableEq, Repr

/-- The response port in a step in which no operation finishes: every field reads 0 (R51, log 8). -/
def ResponsePort.quiet : ResponsePort :=
  { valid := false, result := .ok, n := 0, bytes := [], value := 0 }

/-- A transaction on the transport port (00_scope.md R12, R52). -/
inductive BusReq where
  /-- BusWrite(a, s) -/
  | write (a : BusAddr) (s : List Byte)
  /-- BusRead(a, n) -/
  | read (a : BusAddr) (n : Nat)
  /-- BusScan() -/
  | scan
deriving DecidableEq, Repr

/-- What the transport answers (00_scope.md R12). -/
inductive BusAnswer where
  /-- OK, the answer to a BusWrite -/
  | ok
  /-- OK(s), the answer to a BusRead -/
  | data (s : List Byte)
  /-- OK(A), the answer to a BusScan: the set A of addresses present, as a list (log 20) -/
  | devices (present : List BusAddr)
  /-- ABSENT -/
  | absent
  /-- FAULT -/
  | fault
deriving DecidableEq, Repr

/-- An answer on the transport port. `late` marks an answer to a transaction that a reset abandoned
(R240, log 11). -/
structure BusArrival where
  answer : BusAnswer
  late : Bool := false
deriving DecidableEq, Repr

/-- DONE on the timer port. `late` marks the end of a delay that a reset abandoned (R240, log 11). -/
structure DelayArrival where
  late : Bool := false
deriving DecidableEq, Repr

/-- A change the caller makes to the request port (R50, R75, R252). -/
inductive RequestMove where
  /-- Present a request, in place of one that may stand there. -/
  | present (word : Word) (bytes : List Byte) (value : Word)
  /-- Take req_valid back. -/
  | withdraw
deriving DecidableEq, Repr

/-- What the environment agents of R5 put on the input ports between two steps (log 2). -/
structure EnvMove where
  rst : Bool := false
  request : Option RequestMove := none
  busIn : Option BusArrival := none
  timerIn : Option DelayArrival := none
deriving DecidableEq, Repr

/-- The state of the machine: the four classes of R30, then the model's own fields. -/
structure State where
  /-- The configuration of R6: an argument of the machine that no step changes (R58, R245, log 1). -/
  cfg : Config
  /-- The status register file (R31 to R39). -/
  status : StatusFile
  /-- STATE (R42). -/
  st : Phase
  /-- ATTEMPTS (R43). -/
  attempts : BitVec 9
  /-- SEQ (R44). -/
  seq : Seq
  /-- The request latch (R45). -/
  latch : Latch
  /-- The engine request registers (R46). -/
  run : RunRegs
  /-- PFAIL (R47). -/
  pfail : Byte
  /-- OUTCOME (R47). -/
  outcome : Byte
  /-- ABANDONED_ANY (R48). -/
  abandonedAny : Bool
  /-- I_COUNT, I_RETRIES, I_DELAY (R48). -/
  init : InitRegs
  /-- LAST_RESULT (R49). -/
  lastResult : Result
  /-- `rst`, input (R55, R240). -/
  rst : Bool
  /-- The request port, input (R50). -/
  req : RequestPort
  /-- The response port, output (R51). -/
  rsp : ResponsePort
  /-- The transport port's outstanding transaction, output (R52). -/
  bus : Option BusReq
  /-- The transport port's answer, input (R52). -/
  busIn : Option BusArrival
  /-- The timer port's outstanding delay in milliseconds, output (R53). -/
  timer : Option Half
  /-- The timer port's answer, input (R53). -/
  timerIn : Option DelayArrival
  /-- host_reset_req, output (R54). -/
  hostResetReq : Bool
  /-- The model's own: how many HostReset requests were issued since the last reset (log 13). -/
  hostResets : Nat
  /-- The model's own: what the environment does after this step and the next ones (log 2). -/
  script : List EnvMove
  /-- The model's own: how many free values have been drawn (log 7, log 14). -/
  freeCount : Nat
deriving DecidableEq, Repr

/-- Why the machine has no step. None of these is an error of the block: R165 and R250 give a waiting
block no step ("stuck, not final"). All are raised by the waiting states of `step`, never by an
instruction's meaning, and all are safe: the machine stops where the hardware goes on waiting. -/
inductive Fault where
  /-- Raised in IDLE with no request on the port and nothing more in the script. Safe (log 4). -/
  | waitsForRequest
  /-- Raised in a state that waits for the transport with no answer to the outstanding transaction and
  nothing more in the script (R165). Safe (log 3). -/
  | waitsForTransport
  /-- Raised in a state that waits for DONE, as above (R165). Safe (log 3). -/
  | waitsForTimer
  /-- Raised in RESTART with `rst` not asserted and nothing more in the script (R158). Safe (log 3). -/
  | restartHeld
deriving DecidableEq, Repr

/-- What the model gives no meaning. -/
inductive Refusal where
  /-- An instruction with no meaning yet: raised by `exec`'s arms only. Safe. -/
  | notModelled (mnemonic : String)
  /-- The configuration breaks a constraint of R7: raised by `step`. Safe (log 6). -/
  | illegalConfiguration
  /-- The transport gave an answer that its contract excludes (R68, R191): raised by the waiting
  states of `step`. Safe (log 5). -/
  | answerOutsideContract
deriving DecidableEq, Repr

/-- What R55 gives at reset, under configuration `c`; the input ports are quiet (log 15). -/
def State.resetWith (c : Config) : State where
  cfg := c
  status :=
    { err := c.code.eNone, cmpl := 0, line := 0, dist := 0, cliffRaw := false, cliffCnt := 0,
      cliffFilt := false, version := 0, resetAck := 0 }
  st := .idle
  attempts := 0
  seq := .plain
  latch := { op := 0, cmd := 0, n := 0, bytes := List.replicate c.maxOperand 0, value := 0 }
  run := { ecmd := 0, edir := .tx, eframe := [], eframeN := 0 }
  pfail := c.code.eNone
  outcome := c.code.eNone
  abandonedAny := false
  init := { count := 0, retries := 0, delayMs := 0 }
  lastResult := .ok
  rst := false
  req := { valid := false, word := 0, bytes := List.replicate c.maxOperand 0, value := 0 }
  rsp := .quiet
  bus := none
  busIn := none
  timer := none
  timerIn := none
  hostResetReq := false
  hostResets := 0
  script := []
  freeCount := 0

/-- The machine right after reset (R55, R241), with the configuration TESTCFG (log 1). -/
def State.reset : State := .resetWith .testcfg

end Sys2Proof.Machine
end

