-- ==== Sys2Proof/Machine/Flags.lean ====
section
/-! DEFINITION. The two flag-like status bits of 10_state.md R56: the completion flag and the filtered
cliff status with its debounce update. The block has no condition codes. -/

namespace Sys2Proof.Machine

open Sys2Proof

/-- The completion flag is "outstanding" when CMPL is not 0 (R32). -/
def StatusFile.outstanding (f : StatusFile) : Bool :=
  f.cmpl != 0

/-- `min(CLIFF_CNT + 1, 3)`: the non-detection counter saturates at 3 (R36, R195). -/
def bumpMisses (cnt : BitVec 2) : BitVec 2 :=
  if cnt = 3 then 3 else cnt + 1

/-- `DEBOUNCE()` on the status register file (42_sequences.md R195); `clearCount` is
P_CLIFF_CLEAR_COUNT. -/
def StatusFile.debounce (clearCount : Nat) (f : StatusFile) : StatusFile :=
  if f.cliffRaw then { f with cliffFilt := true, cliffCnt := 0 }
  else
    { f with
      cliffCnt := bumpMisses f.cliffCnt
      cliffFilt := if clearCount ≤ (bumpMisses f.cliffCnt).toNat then false else f.cliffFilt }

end Sys2Proof.Machine
end

