-- ==== Sys2Proof/Machine/Frame.lean ====
section
/-! DEFINITION. The frame codec's pure functions (40_codec.md): the checksum generator, the frame
encoder, the little-endian splitter and the frame decoder. None reads or writes state (R124). -/

namespace Sys2Proof.Machine

open Sys2Proof

/-- `sum(s)` as an unbounded natural number (00_scope.md R9). -/
def byteSum (s : List Byte) : Nat :=
  (s.map BitVec.toNat).sum

/-- `CKSUM(s) = (~sum(s)) & 0xFF` (R110). -/
def checksum (s : List Byte) : Byte :=
  ~~~ BitVec.ofNat 8 (byteSum s)

/-- The bytes of a frame before its checksum: length byte, command id, parameters (30_encoding.md R81). -/
def frameHead (c : Config) (cmd : Byte) (p : List Byte) : List Byte :=
  BitVec.ofNat 8 (p.length + c.lenBias) :: cmd :: p

/-- `ENCODE(c, p)` (R113). -/
def encodeFrame (c : Config) (cmd : Byte) (p : List Byte) : List Byte :=
  frameHead c cmd p ++ [checksum (frameHead c cmd p)]

/-- The loop of `LE(v)` (R115), at most `k` times. -/
def leBytes : Nat → Nat → List Byte
  | 0, _ => []
  | k + 1, v => if v = 0 then [] else BitVec.ofNat 8 v :: leBytes k (v / 256)

/-- `LE(v)` of a value of P_LE_WIDTH bits (R115): the loop's rounds that exhaust it, one for each byte of
the width. `v` comes from a 32-bit port (10_state.md R50): under the spec's width of 32 it is taken whole,
and of a narrower width its low P_LE_WIDTH bits (log 16). -/
def splitLE (c : Config) (v : Word) : List Byte :=
  leBytes ((c.leWidth + 7) / 8) (v.toNat % 2 ^ c.leWidth)

/-- `RX_LEN(cmd)`, the bytes read for an RX command (00_scope.md R6, 30_encoding.md R83). -/
def rxLen (c : Config) (cmd : Byte) : Nat :=
  if cmd = c.cmd.frontDistance then c.rxLenDistance else c.rxLenOther

/-- The fewest bytes the decoder takes as a frame of id `e` (`need` of R117). -/
def decodeMin (c : Config) (e : Byte) : Nat :=
  if e = c.cmd.frontDistance then 5 else 4

/-- What `DECODE(raw, e)` returns (R117). -/
inductive Decoded where
  /-- One of the three decode failures, with its code. -/
  | failed (code : Byte)
  /-- A frame of the expected id, with its payload. -/
  | good (payload : List Byte)
deriving DecidableEq, Repr

/-- The outcome code: E_NONE or the failure's code. -/
def Decoded.code (c : Config) : Decoded → Byte
  | .failed b => b
  | .good _ => c.code.eNone

/-- The payload; a failure has none. -/
def Decoded.payload : Decoded → List Byte
  | .failed _ => []
  | .good pl => pl

/-- `DECODE(raw, e)` without its register writes (R117), the three checks in the order of R118. The
length byte is not checked (R125). -/
def decodeFrame (c : Config) (raw : List Byte) (e : Byte) : Decoded :=
  if raw.length < decodeMin c e then .failed c.code.eReadError
  else if raw.getLast? ≠ some (checksum raw.dropLast) then .failed c.code.eRxChecksum
  else if raw[1]? ≠ some e then .failed c.code.eRxCommand
  else .good (raw.drop 2).dropLast

end Sys2Proof.Machine
end

