-- ==== Sys2Proof/Machine/Operands.lean ====
section
/-! DEFINITION. Operand access: the bytes a request uses and the request latch (30_encoding.md R90,
41_engine.md R140). -/

namespace Sys2Proof.Machine

open Sys2Proof

/-- Bytes 0 to n-1 of a byte buffer; a byte the list does not hold reads 0 (log 12). -/
def bufTake (n : Nat) (buf : List Byte) : List Byte :=
  (buf ++ List.replicate n 0).take n

/-- `buf[0..len(bs)-1] <- bs`: the bytes from index len(bs) on keep their values. -/
def bufWrite (buf bs : List Byte) : List Byte :=
  bs ++ buf.drop bs.length

/-- The request latch's write of R140: `REQ_OP`, `REQ_CMD`, `REQ_N`, the first N bytes of `REQ_BYTES`,
and `REQ_VALUE`, from the request port. -/
def latchRequest (op : BitVec 4) (cmd n : Byte) (s : State) : State :=
  { s with
    latch :=
      { op := op, cmd := cmd, n := n
        bytes := bufWrite s.latch.bytes (bufTake n.toNat s.req.bytes)
        value := s.req.value } }

/-- `REQ_BYTES[0..REQ_N-1]`, the operand bytes of the latched request (R90). -/
def State.operands (s : State) : List Byte :=
  bufTake s.latch.n.toNat s.latch.bytes

end Sys2Proof.Machine
end

