-- ==== Sys2Proof/Machine/Ops.lean ====
section
/-! DEFINITION. The shared operations of the FSM: issuing on the ports, ending an operation, the decoder's
register writes, one engine run, and the entry to and return from the error branches (41_engine.md,
60_exceptions.md). -/

namespace Sys2Proof.Machine

open Sys2Proof

/-! ## Issuing on the ports (00_scope.md R12, R13) -/

/-- `issue BusWrite(P_DEV_ADDR, bytes); state <- next` (R52). -/
def issueWrite (bytes : List Byte) (next : Phase) (s : State) : State :=
  { s with bus := some (.write s.cfg.devAddr bytes), st := next }

/-- `issue BusRead(P_DEV_ADDR, n); state <- next` (R52). -/
def issueRead (n : Nat) (next : Phase) (s : State) : State :=
  { s with bus := some (.read s.cfg.devAddr n), st := next }

/-- `issue BusScan(); state <- next` (R52). -/
def issueScan (next : Phase) (s : State) : State :=
  { s with bus := some .scan, st := next }

/-- `issue Delay(ms); state <- next` (R53). -/
def issueDelay (ms : Half) (next : Phase) (s : State) : State :=
  { s with timer := some ms, st := next }

/-- `host_reset_req <- 1; issue HostReset(); state <- RESTART` (R152, R158). -/
def issueHostReset (s : State) : State :=
  { s with hostResetReq := true, hostResets := s.hostResets + 1, st := .restart }

/-! ## Ending an operation -/

/-- `rsp_n` for a response of `len` bytes. The port is 8 bits wide (R51); what it holds for more than
255 bytes is a free value (log 7), `k` the draw counter. -/
def responseCount (len k : Nat) : Byte :=
  if len < 256 then BitVec.ofNat 8 len else Config.freeRspCount k

/-- `finish(r, len(b), b, v)` (R157): every call of the spec passes the length of `b` as `n`. -/
def finish (r : Result) (b : List Byte) (v : Word) (s : State) : State :=
  { s with
    rsp :=
      { valid := true, result := r, n := responseCount b.length s.freeCount, bytes := b, value := v }
    lastResult := r
    seq := .plain
    st := .idle
    freeCount := if b.length < 256 then s.freeCount else s.freeCount + 1 }

/-! ## The decoder's register writes -/

/-- The row of R119 that `e` selects, on the status register file. -/
def writebackStatus (c : Config) (raw : List Byte) (e : Byte) (f : StatusFile) : StatusFile :=
  if e = c.cmd.errorRead then { f with err := raw.getD 2 0 }
  else if e = c.cmd.completionRead then { f with cmpl := raw.getD 2 0 }
  else if e = c.cmd.lineSensor then
    { f with line := raw.getD 2 0, cliffRaw := raw.getD 2 0 &&& c.cliffMask != 0 }
  else if e = c.cmd.frontDistance then { f with dist := raw.getD 3 0 ++ raw.getD 2 0 }
  else if e = c.cmd.version then { f with version := raw.getD 2 0 }
  else if e = c.cmd.commsReset then { f with resetAck := raw.getD 2 0 }
  else f

/-- The register writes of `DECODE(raw, e)`: WRITEBACK on success, nothing on a failure (R117, R119). -/
def decodeInto (raw : List Byte) (e : Byte) (s : State) : State :=
  match decodeFrame s.cfg raw e with
  | .failed _ => s
  | .good _ => { s with status := writebackStatus s.cfg raw e s.status }

/-! ## One engine run -/

/-- The frame of every error poll, `ENCODE(CMD_ERROR_READ, [])` (R147). -/
def pollFrame (c : Config) : List Byte :=
  encodeFrame c c.cmd.errorRead []

/-- One attempt of ENGINE_TOP: `PFAIL <- E_NONE`, the primary BusWrite, E_WR (R143). -/
def beginAttempt (s : State) : State :=
  issueWrite (s.run.eframe.take s.run.eframeN) .eWr { s with pfail := s.cfg.code.eNone }

/-- `ENGINE_START(c, p, d)` (R142). It ends in ENGINE_TOP with ATTEMPTS = 0, whose loop test never
fails (R143), so the attempt starts at once (log 19; `engineTop_of_zero` in Laws/Ops.lean). -/
def engineStart (cmd : Byte) (p : List Byte) (d : Dir) (s : State) : State :=
  beginAttempt
    { s with
      run := { ecmd := cmd, edir := d, eframe := encodeFrame s.cfg cmd p, eframeN := p.length + 3 }
      attempts := 0 }

/-- `POLL_START` (R147). -/
def pollStart (s : State) : State :=
  issueWrite (pollFrame s.cfg) .pWr s

/-! ## The end of an engine run, by SEQ -/

/-- `if r == ABANDONED: ABANDONED_ANY <- 1` (R182, R184). -/
def markAbandoned (r : Result) (s : State) : State :=
  { s with abandonedAny := s.abandonedAny || r == .abandoned }

/-- The end of TXW's actuation run (R182). -/
def afterActuation (r : Result) (s : State) : State :=
  engineStart s.cfg.cmd.completionRead [] .rx { markAbandoned r s with seq := .txwCmpl }

/-- The end of a completion-poll run of TXW (R184). -/
def afterCompletionPoll (r : Result) (s : State) : State :=
  let s1 := markAbandoned r s
  if s1.status.outstanding then issueDelay s1.cfg.completionPollMs .cWait s1
  else finish (if s1.abandonedAny then .abandoned else .ok) [] 0 s1

/-- The end of CLIFF's sensor run: DEBOUNCE, then finish with the filtered status (R195). -/
def afterSensorRun (r : Result) (s : State) : State :=
  let s1 := { s with status := s.status.debounce s.cfg.cliffClearCount }
  finish r [] (if s1.status.cliffFilt then 1 else 0) s1

/-- `ENGINE_RETURN(r)` (R159). -/
def engineReturn (r : Result) (s : State) : State :=
  match s.seq with
  | .plain => finish r [] 0 s
  | .txwTx => afterActuation r s
  | .txwCmpl => afterCompletionPoll r s
  | .cliff => afterSensorRun r s

/-- `ENGINE_TOP` (R143). -/
def engineTop (s : State) : State :=
  if s.cfg.maxRetries.toNat < s.attempts.toNat then engineReturn .abandoned s else beginAttempt s

/-! ## Entry to the error branches and return from them (60_exceptions.md R224, R225) -/

/-- The error conditions that take an engine run out of its attempt. -/
inductive Escalation where
  /-- The transport answered ABSENT (R210). -/
  | absent
  /-- The transport answered FAULT (R211). -/
  | transportFault
  /-- The effective code is E_START_KEY (R216). -/
  | startKey
  /-- The effective code is E_CLIFF (R217). -/
  | cliff
  /-- Any other effective code but E_NONE (R212 to R215, step f). -/
  | otherError
deriving DecidableEq, Repr

/-- Taking an error condition: what is recorded, what is issued and the state entered (R144, R152,
R160, R224). The latched request and EFRAME are kept: nothing is saved elsewhere. -/
def escalate (x : Escalation) (s : State) : State :=
  match x with
  | .absent => issueDelay s.cfg.backoffAbsentMs .backoff { s with attempts := s.attempts + 1 }
  | .transportFault => finish .fault [] 0 s
  | .startKey => issueHostReset s
  | .cliff => issueDelay s.cfg.cliffPollMs .lWait s
  | .otherError => issueDelay s.cfg.backoffErrorMs .backoff { s with attempts := s.attempts + 1 }

/-- The return from BACKOFF (R153, R225). -/
def returnFromBackoff (s : State) : State :=
  engineTop s

/-- The return from the lockout: `ATTEMPTS <- 0; goto ENGINE_TOP` (R155, R156, R225). -/
def returnFromLockout (s : State) : State :=
  engineTop { s with attempts := 0 }

/-- `EFFECTIVE(q, p)` (R151): `q` the poll's outcome, `p` = PFAIL, `err` the register ERR after the
poll's decode. -/
def effective (c : Config) (q p err : Byte) : Byte :=
  if c.protocolFailCounts then
    if q ≠ c.code.eNone then q
    else if err = c.code.eNone ∧ p ≠ c.code.eNone then p
    else err
  else err

/-- `BRANCH(E)` (R152). -/
def branch (e : Byte) (s : State) : State :=
  if e = s.cfg.code.eNone then engineReturn .ok s
  else if e = s.cfg.code.eStartKey then escalate .startKey s
  else if e = s.cfg.code.eCliff then escalate .cliff s
  else escalate .otherError s

end Sys2Proof.Machine
end

