-- ==== Sys2Proof/Machine/Codec.lean ====
section
/-! DEFINITION. The meanings of the codec operations CKSUM, ENCODE, DECODE and LEENC (40_codec.md). Each
is the accepting step: the latch write of R140, then the operation's rule, which finishes at once. -/

namespace Sys2Proof.Machine

open Sys2Proof

/-- What every meaning answers: the next state. -/
abbrev Outcome := Host.Outcome State Fault Refusal

/-- CKSUM (R111). -/
def execCksum (n : Byte) (s : State) : Outcome :=
  let s1 := latchRequest 0x1 0 n s
  .next (finish .ok [checksum s1.operands] ((checksum s1.operands).setWidth 32) s1)

/-- ENCODE (R114). -/
def execEncode (cmd n : Byte) (s : State) : Outcome :=
  let s1 := latchRequest 0x2 cmd n s
  .next (finish .ok (encodeFrame s1.cfg s1.latch.cmd s1.operands) 0 s1)

/-- DECODE (R120). -/
def execDecode (cmd n : Byte) (s : State) : Outcome :=
  let s1 := latchRequest 0x3 cmd n s
  let d := decodeFrame s1.cfg s1.operands s1.latch.cmd
  .next
    (finish .ok d.payload ((d.code s1.cfg).setWidth 32) (decodeInto s1.operands s1.latch.cmd s1))

/-- LEENC (R116). -/
def execLeenc (s : State) : Outcome :=
  let s1 := latchRequest 0x4 0 0 s
  .next (finish .ok (splitLE s1.cfg s1.latch.value) s1.latch.value s1)

end Sys2Proof.Machine
end

