-- ==== Sys2Proof/Machine/Engine.lean ====
section
/-! DEFINITION. TX and RX (41_engine.md R170, R171), and the engine's step in each of its waiting states
(R145 to R156). A step takes the answer to the outstanding transaction or delay, which its caller has
already taken off the port. -/

namespace Sys2Proof.Machine

open Sys2Proof

/-- TX, the accepting step (R141, R170). -/
def execTx (cmd n : Byte) (s : State) : Outcome :=
  let s1 := latchRequest 0x5 cmd n s
  .next (engineStart s1.latch.cmd s1.operands .tx { s1 with seq := .plain })

/-- RX, the accepting step (R141, R171). -/
def execRx (cmd n : Byte) (s : State) : Outcome :=
  let s1 := latchRequest 0x6 cmd n s
  .next (engineStart s1.latch.cmd s1.operands .rx { s1 with seq := .plain })

/-- E_WR, on the answer to the primary BusWrite (R145). -/
def onPrimaryWrite (a : BusAnswer) (s : State) : Outcome :=
  match a with
  | .ok =>
    match s.run.edir with
    | .rx => .next (issueRead (rxLen s.cfg s.run.ecmd) .eRd s)
    | .tx => .next (pollStart s)
  | .absent => .next (escalate .absent s)
  | .fault => .next (escalate .transportFault s)
  | .data _ => .refused .answerOutsideContract
  | .devices _ => .refused .answerOutsideContract

/-- E_RD, on the answer to the primary BusRead (R146). -/
def onPrimaryRead (a : BusAnswer) (s : State) : Outcome :=
  match a with
  | .data raw =>
    .next
      (pollStart
        { decodeInto raw s.run.ecmd s with
          pfail := (decodeFrame s.cfg raw s.run.ecmd).code s.cfg })
  | .absent => .next (escalate .absent s)
  | .fault => .next (escalate .transportFault s)
  | .ok => .refused .answerOutsideContract
  | .devices _ => .refused .answerOutsideContract

/-- P_WR, on the answer to the poll BusWrite (R148). -/
def onPollWrite (a : BusAnswer) (s : State) : Outcome :=
  match a with
  | .ok => .next (issueRead (rxLen s.cfg s.cfg.cmd.errorRead) .pRd s)
  | .absent => .next (escalate .absent s)
  | .fault => .next (escalate .transportFault s)
  | .data _ => .refused .answerOutsideContract
  | .devices _ => .refused .answerOutsideContract

/-- The end of an attempt, when the poll's bytes have arrived: decode, OUTCOME, BRANCH (R149). -/
def pollBranch (raw : List Byte) (s : State) : State :=
  let s1 := decodeInto raw s.cfg.cmd.errorRead s
  let q := (decodeFrame s.cfg raw s.cfg.cmd.errorRead).code s.cfg
  let e := effective s1.cfg q s1.pfail s1.status.err
  branch e { s1 with outcome := e }

/-- P_RD, on the answer to the poll BusRead (R149). -/
def onPollRead (a : BusAnswer) (s : State) : Outcome :=
  match a with
  | .data raw => .next (pollBranch raw s)
  | .absent => .next (escalate .absent s)
  | .fault => .next (escalate .transportFault s)
  | .ok => .refused .answerOutsideContract
  | .devices _ => .refused .answerOutsideContract

/-- BACKOFF, on DONE (R153). -/
def onBackoffDone (s : State) : Outcome :=
  .next (returnFromBackoff s)

/-- L_WAIT, on DONE: the lockout re-poll (R154). -/
def onLockoutDelayDone (s : State) : Outcome :=
  .next (issueWrite (pollFrame s.cfg) .lWr s)

/-- L_WR, on the answer to the re-poll's BusWrite (R155). -/
def onLockoutWrite (a : BusAnswer) (s : State) : Outcome :=
  match a with
  | .ok => .next (issueRead (rxLen s.cfg s.cfg.cmd.errorRead) .lRd s)
  | .absent => .next (issueDelay s.cfg.cliffPollMs .lWait s)
  | .fault => .next (escalate .transportFault s)
  | .data _ => .refused .answerOutsideContract
  | .devices _ => .refused .answerOutsideContract

/-- The lockout's loop test, when the re-poll's bytes have arrived (R155). -/
def lockoutTest (raw : List Byte) (s : State) : State :=
  let s1 := decodeInto raw s.cfg.cmd.errorRead s
  if s1.status.err = s1.cfg.code.eCliff then issueDelay s1.cfg.cliffPollMs .lWait s1
  else if s1.cfg.cliffClearPauseMs ≠ 0 then issueDelay s1.cfg.cliffClearPauseMs .lPause s1
  else returnFromLockout s1

/-- L_RD, on the answer to the re-poll's BusRead (R155). -/
def onLockoutRead (a : BusAnswer) (s : State) : Outcome :=
  match a with
  | .data raw => .next (lockoutTest raw s)
  | .absent => .next (issueDelay s.cfg.cliffPollMs .lWait s)
  | .fault => .next (escalate .transportFault s)
  | .ok => .refused .answerOutsideContract
  | .devices _ => .refused .answerOutsideContract

/-- L_PAUSE, on DONE (R156). -/
def onClearPauseDone (s : State) : Outcome :=
  .next (returnFromLockout s)

end Sys2Proof.Machine
end

