-- ==== Sys2Proof/Machine/Sequence.lean ====
section
/-! DEFINITION. The sequencer operations TXW, INIT and CLIFF (42_sequences.md), their accepting steps and
the waiting states that are theirs alone. -/

namespace Sys2Proof.Machine

open Sys2Proof

/-- TXW, the accepting step (R181). -/
def execTxw (cmd n : Byte) (s : State) : Outcome :=
  let s1 := latchRequest 0x7 cmd n s
  .next
    (engineStart s1.latch.cmd s1.operands .tx { s1 with abandonedAny := false, seq := .txwTx })

/-- C_WAIT, on DONE: the next completion poll, SEQ left as it is (R185). -/
def onCompletionDelayDone (s : State) : Outcome :=
  .next (engineStart s.cfg.cmd.completionRead [] .rx s)

/-- `INIT_TOP` (R190). -/
def initTop (s : State) : State :=
  if s.init.retries ≤ s.init.count then finish .initFailed [] 0 s else issueScan .iScan s

/-- INIT, the accepting step (R188, R189). -/
def execInit (s : State) : Outcome :=
  let s1 := latchRequest 0x8 0 0 s
  .next
    (initTop
      { s1 with
        init :=
          { retries := s1.latch.value.extractLsb' 16 16
            delayMs := s1.latch.value.extractLsb' 0 16
            count := 0 } })

/-- The start-key frame, `ENCODE(CMD_START_KEY, P_START_KEY_PARAMS)` (R191). -/
def startKeyFrame (c : Config) : List Byte :=
  encodeFrame c c.cmd.startKey c.startKeyParams

/-- I_SCAN, on the answer to BusScan (R191). A scan has no ABSENT answer. -/
def onScan (a : BusAnswer) (s : State) : Outcome :=
  match a with
  | .devices present =>
    if present.contains s.cfg.devAddr then .next (issueWrite (startKeyFrame s.cfg) .iWr s)
    else .next (issueDelay s.init.delayMs .iWait s)
  | .fault => .next (finish .fault [] 0 s)
  | .absent => .refused .answerOutsideContract
  | .ok => .refused .answerOutsideContract
  | .data _ => .refused .answerOutsideContract

/-- I_WR, on the answer to the start-key BusWrite (R192). -/
def onStartKeyWrite (a : BusAnswer) (s : State) : Outcome :=
  match a with
  | .ok => .next (finish .ok [] 0 s)
  | .absent => .next (issueDelay s.init.delayMs .iWait s)
  | .fault => .next (finish .fault [] 0 s)
  | .data _ => .refused .answerOutsideContract
  | .devices _ => .refused .answerOutsideContract

/-- I_WAIT, on DONE (R193). -/
def onInitDelayDone (s : State) : Outcome :=
  .next (initTop { s with init := { s.init with count := s.init.count + 1 } })

/-- CLIFF, the accepting step (R194). -/
def execCliff (s : State) : Outcome :=
  let s1 := latchRequest 0x9 0 0 s
  .next (engineStart s1.cfg.cmd.lineSensor [] .rx { s1 with seq := .cliff })

end Sys2Proof.Machine
end

