-- ==== Sys2Proof/Syntax.lean ====
section
/-! DEFINITION. The nine operations of the request descriptor (30_encoding.md R89, opcode_table.json),
one constructor for each row of the table. -/

namespace Sys2Proof

/-- One operation with the descriptor fields R90 lets it use: `cmd` is CMD, `n` is N. A field that
R90 marks "0" is no argument. The operand bytes and `req_value` stand on the request port. -/
inductive Instr where
  /-- OP 0x1: checksum of N operand bytes (R111). -/
  | cksum (n : Byte)
  /-- OP 0x2: the outbound frame of CMD and N parameter bytes (R114). -/
  | encode (cmd n : Byte)
  /-- OP 0x3: check and interpret N bytes as a frame of expected id CMD (R120). -/
  | decode (cmd n : Byte)
  /-- OP 0x4: split `req_value` into minimal little-endian bytes (R116). -/
  | leenc
  /-- OP 0x5: an engine run, TX direction (R170). -/
  | tx (cmd n : Byte)
  /-- OP 0x6: an engine run, RX direction (R171). -/
  | rx (cmd n : Byte)
  /-- OP 0x7: a TX engine run, then completion polls (R180). -/
  | txw (cmd n : Byte)
  /-- OP 0x8: presence scan and start-key, with retries (R188). -/
  | init
  /-- OP 0x9: a line-sensor RX run, then the debounce update (R194). -/
  | cliff
deriving DecidableEq, Repr

/-- The OP field (R89). -/
def Instr.op : Instr → BitVec 4
  | .cksum _ => 0x1
  | .encode _ _ => 0x2
  | .decode _ _ => 0x3
  | .leenc => 0x4
  | .tx _ _ => 0x5
  | .rx _ _ => 0x6
  | .txw _ _ => 0x7
  | .init => 0x8
  | .cliff => 0x9

/-- The CMD field; 0 where R90 marks it "0". -/
def Instr.cmdField : Instr → Byte
  | .cksum _ => 0
  | .encode c _ => c
  | .decode c _ => c
  | .leenc => 0
  | .tx c _ => c
  | .rx c _ => c
  | .txw c _ => c
  | .init => 0
  | .cliff => 0

/-- The N field; 0 where R90 marks it "0". -/
def Instr.nField : Instr → Byte
  | .cksum n => n
  | .encode _ n => n
  | .decode _ n => n
  | .leenc => 0
  | .tx _ n => n
  | .rx _ n => n
  | .txw _ n => n
  | .init => 0
  | .cliff => 0

end Sys2Proof
end

