-- ==== Sys2Proof/Machine/Dispatch.lean ====
section
/-! DEFINITION. Which meaning each operation has: the accepting step of 41_engine.md R140 and R141 for a
request that is not refused. -/

namespace Sys2Proof.Machine

def exec (i : Instr) (s : State) : Host.Outcome State Fault Refusal :=
  match i with
  | .cksum n => Sys2Proof.Machine.execCksum n s
  | .encode cmd n => Sys2Proof.Machine.execEncode cmd n s
  | .decode cmd n => Sys2Proof.Machine.execDecode cmd n s
  | .leenc => Sys2Proof.Machine.execLeenc s
  | .tx cmd n => Sys2Proof.Machine.execTx cmd n s
  | .rx cmd n => Sys2Proof.Machine.execRx cmd n s
  | .txw cmd n => Sys2Proof.Machine.execTxw cmd n s
  | .init => Sys2Proof.Machine.execInit s
  | .cliff => Sys2Proof.Machine.execCliff s

end Sys2Proof.Machine
end

