-- ==== Sys2Proof/WellFormed.lean ====
section
/-! DEFINITION. When an operation is well formed (30_encoding.md R90 and R91): its operand count is at
most P_MAX_OPERAND. The other conditions of R91 are on words, and no `Instr` breaks them. -/

namespace Sys2Proof

/-- R90: N is "0 to P_MAX_OPERAND"; `maxOperand` is P_MAX_OPERAND. -/
def Instr.wf (maxOperand : Nat) (i : Instr) : Bool :=
  decide (i.nField.toNat ≤ maxOperand)

end Sys2Proof
end

