-- ==== Sys2Proof/Decode.lean ====
section
/-! DEFINITION. The request descriptor: its fields (30_encoding.md R88), the decoder, which refuses
exactly what R91 refuses and says why, and the encoder (R88 to R90). -/

namespace Sys2Proof

/-- Why a request word is refused (R91). -/
inductive Reject where
  /-- OP is 0x0 or 0xA to 0xF. -/
  | reservedOp
  /-- `req_word[7:4]` is not 0. -/
  | reservedLow
  /-- `req_word[31:24]` is not 0. -/
  | reservedHigh
  /-- N is more than P_MAX_OPERAND. -/
  | tooManyOperands
  /-- A field that R90 marks "0" is not 0. -/
  | fieldNotZero
deriving DecidableEq, Repr

/-- OP, `req_word[3:0]` (R88). -/
def opField (w : Word) : BitVec 4 := w.extractLsb' 0 4
/-- `req_word[7:4]`, reserved (R88). -/
def lowReserved (w : Word) : BitVec 4 := w.extractLsb' 4 4
/-- CMD, `req_word[15:8]` (R88). -/
def cmdOf (w : Word) : Byte := w.extractLsb' 8 8
/-- N, `req_word[23:16]` (R88). -/
def countOf (w : Word) : Byte := w.extractLsb' 16 8
/-- `req_word[31:24]`, reserved (R88). -/
def highReserved (w : Word) : Byte := w.extractLsb' 24 8

/-- The operation OP names, with the CMD and N it uses, and whether the fields R90 marks "0" are 0
(R89, R90). -/
def operation (op : BitVec 4) (cmd n : Byte) : Except Reject Instr :=
  match op.toNat with
  | 1 => if cmd = 0 then .ok (.cksum n) else .error .fieldNotZero
  | 2 => .ok (.encode cmd n)
  | 3 => .ok (.decode cmd n)
  | 4 => if cmd = 0 ∧ n = 0 then .ok .leenc else .error .fieldNotZero
  | 5 => .ok (.tx cmd n)
  | 6 => .ok (.rx cmd n)
  | 7 => .ok (.txw cmd n)
  | 8 => if cmd = 0 ∧ n = 0 then .ok .init else .error .fieldNotZero
  | 9 => if cmd = 0 ∧ n = 0 then .ok .cliff else .error .fieldNotZero
  | _ => .error .reservedOp

/-- The decoder (R88 to R91): total on every word. The word is refused (REFUSE of 41_engine.md R140)
exactly when the answer is an error; `maxOperand` is P_MAX_OPERAND. -/
def decode (maxOperand : Nat) (w : Word) : Except Reject Instr :=
  if lowReserved w ≠ 0 then .error .reservedLow
  else if highReserved w ≠ 0 then .error .reservedHigh
  else if maxOperand < (countOf w).toNat then .error .tooManyOperands
  else operation (opField w) (cmdOf w) (countOf w)

/-- The encoder: `req_word = (N << 16) | (CMD << 8) | OP` (R88), bits 31..24 and 7..4 zero. -/
def encode (i : Instr) : Word :=
  (i.nField.setWidth 32 <<< 16) ||| (i.cmdField.setWidth 32 <<< 8) ||| i.op.setWidth 32

/-- The instruction the decoder reads from a descriptor whose bits are `w` (opcode_table.json numbers
them as R88 does), under the default P_MAX_OPERAND (log 23). Bits at or above `nbits` are 0. -/
def decodeTableWord (nbits w : Nat) : Option Instr :=
  match decode Config.testcfg.maxOperand (BitVec.ofNat 32 (w % 2 ^ nbits)) with
  | .ok i => some i
  | .error _ => none

end Sys2Proof
end

