-- ==== Sys2Proof/Machine/Port.lean ====
section
/-! DEFINITION. The ports around the FSM: the status read port (10_state.md R41), the request handshake
(R50), the environment's moves, reset (70_reset_and_hazards.md R240), and the step of a state that takes
no request. -/

namespace Sys2Proof.Machine

open Sys2Proof

/-- `req_ready`: 1 exactly when STATE = IDLE (R50). -/
def State.reqReady (s : State) : Bool :=
  s.st == .idle

/-- The status read port: `rd_addr` to `rd_data`, with no side effect (R41). Every bit not listed
reads 0. -/
def readPort (s : State) (rdAddr : BitVec 4) : Half :=
  match rdAddr.toNat with
  | 0x0 => s.status.err.setWidth 16
  | 0x1 => s.status.cmpl.setWidth 16
  | 0x2 => s.status.line.setWidth 16
  | 0x3 => s.status.dist
  | 0x4 =>
    0#12 ++ s.status.cliffCnt ++ BitVec.ofBool s.status.cliffFilt ++ BitVec.ofBool s.status.cliffRaw
  | 0x5 => s.status.version.setWidth 16
  | 0x6 => s.status.resetAck.setWidth 16
  | 0x7 => s.attempts.setWidth 16
  | 0x8 => s.st.code.setWidth 16
  | 0x9 => s.outcome.setWidth 16
  | 0xA => s.lastResult.code.setWidth 16
  | _ => 0

/-! ## The environment's moves (00_scope.md R5, log 2) -/

/-- What a move does to the request port (R50, R75). -/
def moveRequest (m : Option RequestMove) (p : RequestPort) : RequestPort :=
  match m with
  | none => p
  | some (.present w b v) => { valid := true, word := w, bytes := b, value := v }
  | some .withdraw => { p with valid := false }

/-- The environment puts a move on the input ports. -/
def applyMove (m : EnvMove) (s : State) : State :=
  { s with rst := m.rst, req := moveRequest m.request s.req, busIn := m.busIn, timerIn := m.timerIn }

/-- The environment's turn after a step: the next move of the script, if there is one. -/
def drive (s : State) : State :=
  match s.script with
  | [] => s
  | m :: ms => applyMove m { s with script := ms }

/-- A transition of the block, then the environment's turn. -/
def settle (o : Outcome) : Outcome :=
  match o with
  | .next t => .next (drive t)
  | .fault f => .fault f
  | .refused r => .refused r

/-- The start of every step: the answers on the input ports are taken or, where nothing waits for
them, discarded (R240), and the response of the step before is gone (R51). -/
def openStep (s : State) : State :=
  { s with rst := false, busIn := none, timerIn := none, rsp := .quiet }

/-- The start of an accepting step: the request is off the port (R50, log 9). -/
def takeRequest (s : State) : State :=
  { openStep s with req := { s.req with valid := false } }

/-- The block has no step (R165): the environment may still move (log 25), else nothing does. -/
def noStep (why : Fault) (s : State) : Outcome :=
  match s.script with
  | [] => .fault why
  | _ :: _ => .next (drive (openStep s))

/-! ## Reset -/

/-- Every register takes its reset value (R55, R240); the caller's request port, the script and the
draw counter are not registers of the block (log 10). -/
def blockReset (s : State) : State :=
  { State.resetWith s.cfg with req := s.req, script := s.script, freeCount := s.freeCount }

/-! ## The answers of the transport and the timer -/

/-- The transport contract (00_scope.md R12, R68, R191): which answers a transaction can have. -/
def BusReq.admits (r : BusReq) (a : BusAnswer) : Bool :=
  match r, a with
  | .write _ _, .ok => true
  | .write _ _, .absent => true
  | .write _ _, .fault => true
  | .read _ n, .data s => decide (s.length ≤ n)
  | .read _ _, .absent => true
  | .read _ _, .fault => true
  | .scan, .devices _ => true
  | .scan, .fault => true
  | _, _ => false

/-- The answer to the outstanding transaction, if it has arrived; a late answer is none (R240). -/
def answered (s : State) : Option (BusReq × BusAnswer) :=
  match s.bus, s.busIn with
  | some r, some m => if m.late then none else some (r, m.answer)
  | _, _ => none

/-- Whether DONE of the outstanding delay has arrived. -/
def delayDone (s : State) : Bool :=
  match s.timer, s.timerIn with
  | some _, some m => !m.late
  | _, _ => false

/-- The step of a state that waits for the transport: `k` takes the answer. -/
def onBus (k : BusAnswer → State → Outcome) (s : State) : Outcome :=
  match answered s with
  | none => noStep .waitsForTransport s
  | some (r, a) =>
    if r.admits a then settle (k a { openStep s with bus := none })
    else .refused .answerOutsideContract

/-- The step of a state that waits for the timer: `k` takes DONE. -/
def onDone (k : State → Outcome) (s : State) : Outcome :=
  if delayDone s then settle (k { openStep s with timer := none })
  else noStep .waitsForTimer s

/-- The step of the FSM in a state of R42 in which no request is accepted. -/
def phaseStep (s : State) : Outcome :=
  match s.st with
  | .idle => noStep .waitsForRequest s
  | .eWr => onBus onPrimaryWrite s
  | .eRd => onBus onPrimaryRead s
  | .pWr => onBus onPollWrite s
  | .pRd => onBus onPollRead s
  | .backoff => onDone onBackoffDone s
  | .lWait => onDone onLockoutDelayDone s
  | .lWr => onBus onLockoutWrite s
  | .lRd => onBus onLockoutRead s
  | .lPause => onDone onClearPauseDone s
  | .restart => noStep .restartHeld s
  | .cWait => onDone onCompletionDelayDone s
  | .iScan => onBus onScan s
  | .iWr => onBus onStartKeyWrite s
  | .iWait => onDone onInitDelayDone s

/-- A step in which no request is accepted: an illegal configuration has no meaning (R7), `rst` comes
before everything (R240), else the FSM's state decides. -/
def waitStep (s : State) : Outcome :=
  if !s.cfg.legal then .refused .illegalConfiguration
  else if s.rst then .next (drive (blockReset s))
  else phaseStep s

/-! ## Acceptance (R50, R140) -/

/-- A request is accepted: `req_valid = 1` and `req_ready = 1`, with `rst` not asserted. -/
def accepts (s : State) : Bool :=
  s.cfg.legal && !s.rst && s.reqReady && s.req.valid

/-- The request on the port, decoded; an error is REFUSE of R140. -/
def presented (s : State) : Except Reject Instr :=
  decode s.cfg.maxOperand s.req.word

/-- `finish(REFUSED, 0, [], 0)`: no latch write, nothing issued (R91, R140). -/
def refuse (s : State) : State :=
  finish .refused [] 0 s

end Sys2Proof.Machine
end

