-- ==== Sys2Proof/Machine/Step.lean ====
section
/-! DEFINITION. One step of the machine: the accepting step, or the step that takes one answer
(00_scope.md R13, 70_reset_and_hazards.md R261), and where the next request word stands. -/

namespace Sys2Proof.Machine

open Sys2Proof

/-- One step. In IDLE with a request on the port the block accepts it (R140): a refused request finishes
REFUSED, any other is dispatched. Every other step is `waitStep`. -/
def step (s : State) : Host.Outcome State Fault Refusal :=
  if accepts s then
    match presented s with
    | .ok i => settle (exec i (takeRequest s))
    | .error _ => .next (drive (refuse (takeRequest s)))
  else waitStep s

/-- `s` with the request word `w` on the request port, in IDLE, so that the next step accepts it
(log 17). The operand bytes and `req_value` stay as they are. -/
def State.withFetchWord (s : State) (nbits w : Nat) : State :=
  { s with
    rst := false
    st := .idle
    req := { s.req with valid := true, word := BitVec.ofNat 32 (w % 2 ^ nbits) } }

end Sys2Proof.Machine
end

