-- ==== Sys2Proof/Machine/Assembly.lean ====
section
/-! DEFINITION. The assembly lines and pseudo-instructions of 30_encoding.md R97 and R98: what a caller
presents on the request port. They add no behaviour to the block. -/

namespace Sys2Proof.Machine

open Sys2Proof

/-- One line of R97. -/
inductive AsmLine where
  | cksum (data : List Byte)
  | encode (cmd : Byte) (params : List Byte)
  | decode (cmd : Byte) (raw : List Byte)
  | leenc (value : Word)
  | tx (cmd : Byte) (params : List Byte)
  | rx (cmd : Byte) (params : List Byte)
  | txw (cmd : Byte) (params : List Byte)
  | init (retries delayMs : Half)
  | cliff
deriving DecidableEq, Repr

/-- The byte list of a line; it may be omitted (R97). -/
def AsmLine.bytes : AsmLine → List Byte
  | .cksum d => d
  | .encode _ p => p
  | .decode _ r => r
  | .leenc _ => []
  | .tx _ p => p
  | .rx _ p => p
  | .txw _ p => p
  | .init _ _ => []
  | .cliff => []

/-- `req_value` of a line: the value for LEENC, `(retries << 16) | delayMs` for INIT, 0 otherwise (R97). -/
def AsmLine.value : AsmLine → Word
  | .leenc v => v
  | .init retries delayMs => retries ++ delayMs
  | _ => 0

/-- The operation of a line whose list has `n` bytes. -/
def AsmLine.instr (n : Byte) : AsmLine → Instr
  | .cksum _ => .cksum n
  | .encode c _ => .encode c n
  | .decode c _ => .decode c n
  | .leenc _ => .leenc
  | .tx c _ => .tx c n
  | .rx c _ => .rx c n
  | .txw c _ => .txw c n
  | .init _ _ => .init
  | .cliff => .cliff

/-- A line assembles to the request the caller presents (R97). A list of more than 255 bytes has no N
field and does not assemble (log 22). -/
def assemble (l : AsmLine) : Option RequestMove :=
  if l.bytes.length < 256 then
    some (.present (encode (l.instr (BitVec.ofNat 8 l.bytes.length))) l.bytes l.value)
  else none

/-- `clamp(v) = min(max(v, 1), 100)` (R98). -/
def clampSpeed (v : Int) : Byte :=
  BitVec.ofInt 8 (min (max v 1) 100)

/-- The pseudo-instructions of R98. -/
inductive Pseudo where
  | move (dir : Byte) (speed : Int) (raw : Word)
  | spin (dir : Byte) (speed : Int)
  | stop
  | gstop
  | pollerr
  | readdist
  | readver
  | commsreset
  | line (mask : Byte)
deriving DecidableEq, Repr

/-- The line each pseudo-instruction expands to (R98); the bytes of MOVE's distance are LEENC's. -/
def Pseudo.expand (c : Config) : Pseudo → AsmLine
  | .move dir speed raw =>
    if raw = 0 then .tx c.cmd.move ([dir, clampSpeed speed] ++ splitLE c raw)
    else .txw c.cmd.move ([dir, clampSpeed speed] ++ splitLE c raw)
  | .spin dir speed => .tx c.cmd.spin [dir, clampSpeed speed]
  | .stop => .tx c.cmd.stop []
  | .gstop => .txw c.cmd.gradualStop []
  | .pollerr => .rx c.cmd.errorRead []
  | .readdist => .rx c.cmd.frontDistance []
  | .readver => .rx c.cmd.version []
  | .commsreset => .rx c.cmd.commsReset []
  | .line _ => .rx c.cmd.lineSensor []

/-- What the caller then reads on the status port (R98). -/
def Pseudo.readBack (s : State) : Pseudo → Option Half
  | .readdist => some (readPort s 0x3)
  | .readver => some (readPort s 0x5)
  | .commsreset => some (readPort s 0x6)
  | .line mask => some (if readPort s 0x2 &&& mask.setWidth 16 ≠ 0 then 1 else 0)
  | _ => none

end Sys2Proof.Machine
end

