-- ==== Sys2Proof/Safety.lean ====
section
/-! DEFINITION. What counts as a good state, and the terms the statements use: the spec's formulas written
out apart from the machine's own functions, the situations a step starts from, and the invariants. -/

namespace Sys2Proof.Machine

open Sys2Proof

/-! ## The spec's formulas, apart from the machine's functions -/

/-- `req_bytes[0..n-1]`. -/
def portBytes (n : Nat) (s : State) : List Byte :=
  (List.range n).map fun j => s.req.bytes.getD j 0

/-- `255 - (sum(b) mod 256)`, the second line of 40_codec.md R110. -/
def complementOfSum (b : List Byte) : Byte :=
  BitVec.ofNat 8 (255 - (b.map BitVec.toNat).sum % 256)

/-- The outbound frame of 30_encoding.md R81. -/
def wireFrame (c : Config) (cmd : Byte) (p : List Byte) : List Byte :=
  [BitVec.ofNat 8 ((p.length + c.lenBias) % 256), cmd] ++ p ++
    [complementOfSum ([BitVec.ofNat 8 ((p.length + c.lenBias) % 256), cmd] ++ p)]

/-- The request latch after 41_engine.md R140 has written it. -/
def latched (op : BitVec 4) (cmd n : Byte) (s : State) : Latch :=
  { op := op, cmd := cmd, n := n
    bytes := portBytes n.toNat s ++ s.latch.bytes.drop n.toNat
    value := s.req.value }

/-- The response of an operation that ends with `r` and returns no bytes. -/
def bareReply (r : Result) (v : Word) : ResponsePort :=
  { valid := true, result := r, n := 0, bytes := [], value := v }

/-- The line `l` assembles to a request (R97): its word decodes to `i`, and it brings `bytes` and a
`req_value` whose number is `value`. -/
def AssemblesTo (maxOperand : Nat) (l : AsmLine) (i : Instr) (bytes : List Byte) (value : Nat) : Prop :=
  ∃ (w v : Word), assemble l = some (.present w bytes v) ∧ decode maxOperand w = .ok i ∧ v.toNat = value

/-- `raw` is a frame that DECODE accepts for the expected id `e` (40_codec.md R117): long enough, its last
byte the checksum of the bytes before it, its byte 1 the id. -/
def GoodFrame (c : Config) (raw : List Byte) (e : Byte) : Prop :=
  (if e = c.cmd.frontDistance then 5 else 4) ≤ raw.length ∧
    raw.getLast? = some (complementOfSum raw.dropLast) ∧ raw[1]? = some e

/-- DECODE rejects `raw` for the expected id `e` with the outcome `code` (R117), the first failure in the
order of R118. -/
def BadFrame (c : Config) (raw : List Byte) (e code : Byte) : Prop :=
  (raw.length < (if e = c.cmd.frontDistance then 5 else 4) ∧ code = c.code.eReadError) ∨
  ((if e = c.cmd.frontDistance then 5 else 4) ≤ raw.length ∧
    raw.getLast? ≠ some (complementOfSum raw.dropLast) ∧ code = c.code.eRxChecksum) ∨
  ((if e = c.cmd.frontDistance then 5 else 4) ≤ raw.length ∧
    raw.getLast? = some (complementOfSum raw.dropLast) ∧ raw[1]? ≠ some e ∧
    code = c.code.eRxCommand)

/-- `raw` is a valid 4-byte response of id `e` whose payload byte is `b` (30_encoding.md R82, R83). -/
def FourByteFrame (raw : List Byte) (e b : Byte) : Prop :=
  ∃ len, raw = [len, e, b, complementOfSum [len, e, b]]

/-- `raw` is the valid error-status response that reports the code `b`. -/
def PollReads (c : Config) (raw : List Byte) (b : Byte) : Prop :=
  FourByteFrame raw c.cmd.errorRead b

/-- The conditions of 30_encoding.md R91 on a request word, on its value as a number. -/
def RefusedWord (maxOperand : Nat) (w : Word) : Prop :=
  (w.toNat % 16 = 0 ∨ 10 ≤ w.toNat % 16) ∨
  w.toNat / 16 % 16 ≠ 0 ∨
  w.toNat / 16777216 ≠ 0 ∨
  maxOperand < w.toNat / 65536 % 256 ∨
  (w.toNat % 16 = 1 ∧ w.toNat / 256 % 256 ≠ 0) ∨
  ((w.toNat % 16 = 4 ∨ w.toNat % 16 = 8 ∨ w.toNat % 16 = 9) ∧
    (w.toNat / 256 % 256 ≠ 0 ∨ w.toNat / 65536 % 256 ≠ 0))

/-- Every register at the value of the table of 10_state.md R55. -/
def HasResetValues (s : State) : Prop :=
  s.status =
    { err := s.cfg.code.eNone, cmpl := 0, line := 0, dist := 0, cliffRaw := false, cliffCnt := 0,
      cliffFilt := false, version := 0, resetAck := 0 } ∧
  s.st = .idle ∧ s.attempts = 0 ∧ s.seq = .plain ∧
  s.latch.op = 0 ∧ s.latch.cmd = 0 ∧ s.latch.n = 0 ∧
  s.latch.bytes = List.replicate s.cfg.maxOperand 0 ∧ s.latch.value = 0 ∧
  s.run.ecmd = 0 ∧ s.run.edir = .tx ∧ s.run.eframeN = 0 ∧ s.run.eframe = [] ∧
  s.pfail = s.cfg.code.eNone ∧ s.outcome = s.cfg.code.eNone ∧
  s.abandonedAny = false ∧ s.init = { count := 0, retries := 0, delayMs := 0 } ∧
  s.lastResult = .ok ∧ s.hostResetReq = false ∧ s.reqReady = true ∧ s.rsp.valid = false ∧
  s.bus = none ∧ s.timer = none

/-- The end of one CLIFF operation whose run returned `r` with the raw reading `reading` (R195). -/
def cliffUpdate (r : Result) (reading : Bool) (s : State) : State :=
  engineReturn r { s with seq := .cliff, status := { s.status with cliffRaw := reading } }

/-- The ERR byte that a received poll frame leaves: its payload byte if it decodes, else the old one. -/
def errAfter (s : State) (raw : List Byte) : Byte :=
  match decodeFrame s.cfg raw s.cfg.cmd.errorRead with
  | .good _ => raw.getD 2 0
  | .failed _ => s.status.err

/-! ## The situations a step starts from -/

/-- The state takes the answer `a` to its outstanding transaction in the next step. -/
def BusAnswered (s : State) (a : BusAnswer) : Prop :=
  s.cfg.legal = true ∧ s.rst = false ∧ s.busIn = some { answer := a, late := false } ∧
    ∃ r, s.bus = some r ∧ r.admits a = true

/-- The state takes DONE of its outstanding delay in the next step. -/
def DelayAnswered (s : State) : Prop :=
  s.cfg.legal = true ∧ s.rst = false ∧ s.timerIn = some { late := false } ∧ s.timer.isSome = true

/-- The block accepts a request word in the next step. -/
def Offered (s : State) : Prop :=
  s.cfg.legal = true ∧ s.rst = false ∧ s.st = .idle ∧ s.req.valid = true

/-- The transport answered, and the answer is off the port. -/
def busTaken (s : State) : State :=
  { openStep s with bus := none }

/-- The timer answered, and the answer is off the port. -/
def delayTaken (s : State) : State :=
  { openStep s with timer := none }

/-- The bytes `raw` reach the decoder in the next step with the expected id `e`: they are the transport's
answer in E_RD, P_RD or L_RD, or the operands of an accepted DECODE (R40, R122). -/
def Received (s : State) (raw : List Byte) (e : Byte) : Prop :=
  (BusAnswered s (.data raw) ∧
    ((s.st = .eRd ∧ e = s.run.ecmd) ∨ ((s.st = .pRd ∨ s.st = .lRd) ∧ e = s.cfg.cmd.errorRead))) ∨
  (Offered s ∧ ∃ n, presented s = .ok (.decode e n) ∧ raw = portBytes n.toNat s)

/-- A script in which the transport answers `a`. -/
def answerMove (a : BusAnswer) : EnvMove :=
  { busIn := some { answer := a } }

/-- A script in which the timer answers DONE. -/
def doneMove : EnvMove :=
  { timerIn := some {} }

/-- The states of an engine run's attempt: the source's Attempt (R42). -/
def Phase.inAttempt : Phase → Bool
  | .eWr | .eRd | .pWr | .pRd => true
  | _ => false

/-- The states of the cliff lockout (R42). -/
def Phase.inLockout : Phase → Bool
  | .lWait | .lWr | .lRd | .lPause => true
  | _ => false

/-- The states of an engine run. -/
def Phase.inRun (p : Phase) : Bool :=
  p.inAttempt || p.inLockout || p == .backoff

/-! ## Invariants -/

/-- The transaction that STATE says is outstanding (R42, R52). -/
def expectedBus (s : State) : Option BusReq :=
  match s.st with
  | .eWr => some (.write s.cfg.devAddr (s.run.eframe.take s.run.eframeN))
  | .eRd => some (.read s.cfg.devAddr (rxLen s.cfg s.run.ecmd))
  | .pWr | .lWr => some (.write s.cfg.devAddr (pollFrame s.cfg))
  | .pRd | .lRd => some (.read s.cfg.devAddr (rxLen s.cfg s.cfg.cmd.errorRead))
  | .iScan => some .scan
  | .iWr => some (.write s.cfg.devAddr (startKeyFrame s.cfg))
  | .idle | .backoff | .lWait | .lPause | .restart | .cWait | .iWait => none

/-- The delay that STATE says is outstanding (R42, R53). -/
def delayFits (s : State) : Prop :=
  match s.st with
  | .backoff => s.timer = some s.cfg.backoffAbsentMs ∨ s.timer = some s.cfg.backoffErrorMs
  | .lWait => s.timer = some s.cfg.cliffPollMs
  | .lPause => s.timer = some s.cfg.cliffClearPauseMs ∧ s.cfg.cliffClearPauseMs ≠ 0
  | .cWait => s.timer = some s.cfg.completionPollMs
  | .iWait => s.timer = some s.init.delayMs
  | .idle | .eWr | .eRd | .pWr | .pRd | .lWr | .lRd | .restart | .iScan | .iWr => s.timer = none

/-- At most one request is outstanding, and it is the one STATE waits for (R52, R53, R72). -/
def PortsFit (s : State) : Prop :=
  s.bus = expectedBus s ∧ delayFits s

/-- ATTEMPTS stays within the retry budget (R43, R161). -/
def RetryBounded (s : State) : Prop :=
  s.attempts.toNat ≤ s.cfg.maxRetries.toNat + 1 ∧
  ((s.st.inAttempt || s.st.inLockout) = true → s.attempts.toNat ≤ s.cfg.maxRetries.toNat) ∧
  (s.st = .backoff → 1 ≤ s.attempts.toNat)

/-- host_reset_req is asserted exactly in RESTART, and one HostReset has been issued there (R54, R163). -/
def RestartFits (s : State) : Prop :=
  (s.hostResetReq = true ↔ s.st = .restart) ∧ s.hostResets = if s.st = .restart then 1 else 0

/-- PFAIL holds E_NONE or a code of the block's own decoder (R47). -/
def PfailLocal (s : State) : Prop :=
  s.pfail = s.cfg.code.eNone ∨ s.pfail = s.cfg.code.eReadError ∨
    s.pfail = s.cfg.code.eRxChecksum ∨ s.pfail = s.cfg.code.eRxCommand

/-- What ERR holds in the interlock states: E_CLIFF while the lockout polls, something else in its
pause (R155), and the start-key code in RESTART (R216). -/
def InterlockFits (s : State) : Prop :=
  PfailLocal s ∧
  ((s.st = .lWait ∨ s.st = .lWr ∨ s.st = .lRd) → s.status.err = s.cfg.code.eCliff) ∧
  (s.st = .lPause → s.status.err ≠ s.cfg.code.eCliff) ∧
  (s.st = .restart → s.status.err = s.cfg.code.eStartKey ∧ s.outcome = s.cfg.code.eStartKey)

/-- SEQ, the run registers and INIT's counter agree with STATE (R44, R46, R48). -/
def SequenceFits (s : State) : Prop :=
  (s.st = .idle → s.seq = .plain) ∧
  (s.st = .cWait → s.seq = .txwCmpl) ∧
  ((s.st = .iScan ∨ s.st = .iWr ∨ s.st = .iWait) →
    s.seq = .plain ∧ s.init.count.toNat < s.init.retries.toNat) ∧
  (s.st = .eRd → s.run.edir = .rx) ∧
  (s.st.inRun = true →
    (s.seq = .txwTx → s.run.edir = .tx) ∧
    (s.seq = .txwCmpl → s.run.edir = .rx ∧ s.run.ecmd = s.cfg.cmd.completionRead) ∧
    (s.seq = .cliff → s.run.edir = .rx ∧ s.run.ecmd = s.cfg.cmd.lineSensor))

/-- The buffers keep their sizes, and in a run EFRAME is a frame of ECMD (R45, R46, R67). -/
def FrameFits (s : State) : Prop :=
  s.latch.bytes.length = s.cfg.maxOperand ∧
  (s.st.inRun = true →
    s.run.eframeN = s.run.eframe.length ∧
    ∃ p, p.length ≤ s.cfg.maxOperand ∧ s.run.eframe = encodeFrame s.cfg s.run.ecmd p)

/-- A response stands on the port only in IDLE, with the result LAST_RESULT keeps; else every field
reads 0 (R49, R51, R157). -/
def ResponseFits (s : State) : Prop :=
  (s.rsp.valid = true → s.st = .idle ∧ s.rsp.result = s.lastResult) ∧
  (s.rsp.valid = false → s.rsp = .quiet)

/-- While the filtered cliff status is active, fewer than P_CLIFF_CLEAR_COUNT consecutive
non-detections have been counted (R195, R196). -/
def DebounceFits (s : State) : Prop :=
  0 < s.cfg.cliffClearCount → s.status.cliffFilt = true →
    s.status.cliffCnt.toNat < s.cfg.cliffClearCount

/-- The invariant of the machine: a legal configuration and all of the above. -/
def Good (s : State) : Prop :=
  s.cfg.legal = true ∧ PortsFit s ∧ RetryBounded s ∧ RestartFits s ∧ InterlockFits s ∧
    SequenceFits s ∧ FrameFits s ∧ ResponseFits s ∧ DebounceFits s

/-- How many answers an engine run can still take before it returns or leaves its attempts, by STATE
and ATTEMPTS (70_reset_and_hazards.md R250). -/
def stepsLeft (s : State) : Nat :=
  match s.st with
  | .eWr => 5 * (s.cfg.maxRetries.toNat - s.attempts.toNat) + 5
  | .eRd => 5 * (s.cfg.maxRetries.toNat - s.attempts.toNat) + 4
  | .pWr => 5 * (s.cfg.maxRetries.toNat - s.attempts.toNat) + 3
  | .pRd => 5 * (s.cfg.maxRetries.toNat - s.attempts.toNat) + 2
  | .backoff => 5 * (s.cfg.maxRetries.toNat + 1 - s.attempts.toNat) + 1
  | _ => 0

end Sys2Proof.Machine
end

