-- ==== Sys2Proof/Certificates/Slice0/Obligations.lean ====
section
/-! DEFINITION. The statements for the provers. Each formalises rules of spec/ about the machine; the
formulas on the right stand in Safety.lean, apart from the machine's own functions. Every statement holds
for every configuration of 00_scope.md R6 (those about `step` for every legal one, R7). In a statement
about `step`, `drive` is the environment's turn after the block's transition: it changes the input ports
and the script alone (log 2). `busTaken` and `delayTaken` are the state with the answer taken: its response
port reads 0 until an operation finishes (log 8). -/

open Sys2Proof Sys2Proof.Machine

/-! ## The request descriptor -/

/-- R88 to R90: decoding the word of a well-formed operation gives the operation back, with every CMD and
N. -/
def Obligations.DecodeOfEncodeGivesTheInstruction : Prop :=
  ∀ (maxOperand : Nat) (i : Instr), i.wf maxOperand = true → decode maxOperand (encode i) = .ok i

/-- R88 to R90: a word has at most one meaning, and it is the word of that meaning. -/
def Obligations.AcceptedWordIsTheEncodingOfItsInstruction : Prop :=
  ∀ (maxOperand : Nat) (w : Word) (i : Instr),
    decode maxOperand w = .ok i → encode i = w ∧ i.wf maxOperand = true

/-- R91: which words are refused, and that a refused request is taken off the port, finishes REFUSED in
one step, writes LAST_RESULT alone and issues nothing; any other word runs its operation. The premise
`seq = plain` is part of the invariant `Good` (in IDLE). That the request leaves the port is the model's
choice (log 9). -/
def Obligations.RefusedRequestFinishesAtOnce : Prop :=
  ∀ s : State, Offered s → s.seq = .plain →
    (RefusedWord s.cfg.maxOperand s.req.word →
      step s = .next (drive
        { takeRequest s with rsp := bareReply .refused 0, lastResult := .refused })) ∧
    (¬ RefusedWord s.cfg.maxOperand s.req.word →
      ∃ i, presented s = .ok i ∧ step s = settle (exec i (takeRequest s)))

/-- R88 and R89, on words written out from the tables of 95_test_vectors.md. -/
def Obligations.SampleWordsDecodeAsTheSpecGives : Prop :=
  decode 16 0x00050001 = .ok (.cksum 5) ∧ decode 16 0x00030102 = .ok (.encode 0x01 3) ∧
  decode 16 0x00042003 = .ok (.decode 0x20 4) ∧ decode 16 0x00000004 = .ok .leenc ∧
  decode 16 0x00100305 = .ok (.tx 0x03 16) ∧ decode 16 0x00002306 = .ok (.rx 0x23 0) ∧
  decode 16 0x00000407 = .ok (.txw 0x04 0) ∧ decode 16 0x00000008 = .ok .init ∧
  decode 16 0x00000009 = .ok .cliff ∧
  decode 16 0x00110305 = .error .tooManyOperands ∧ decode 16 0x0000000A = .error .reservedOp

/-- R50 and R140: an accepted request that is not refused runs its operation in the same step, on the state
whose input ports have been read, and the environment moves after it. How the request leaves the port and
how the environment moves are the model's choices (log 2, log 9). -/
def Obligations.StepRunsTheDecodedInstruction : Prop :=
  ∀ (s : State) (i : Instr), Offered s → decode s.cfg.maxOperand s.req.word = .ok i →
    step s = settle (exec i (takeRequest s))

/-- R97, line by line: what each line assembles to. Its word decodes to the operation with the line's
command id and N the length of its list, `req_bytes` is the list, and `req_value` is the value of LEENC,
`(retries << 16) | delayMs` of INIT, and 0 otherwise. -/
def Obligations.AssembledLineDecodesToItsOperation : Prop :=
  ∀ maxOperand : Nat, maxOperand ≤ 253 →
    (∀ (b : List Byte) (cmd n : Byte), b.length ≤ maxOperand → n.toNat = b.length →
      AssemblesTo maxOperand (.cksum b) (.cksum n) b 0 ∧
      AssemblesTo maxOperand (.encode cmd b) (.encode cmd n) b 0 ∧
      AssemblesTo maxOperand (.decode cmd b) (.decode cmd n) b 0 ∧
      AssemblesTo maxOperand (.tx cmd b) (.tx cmd n) b 0 ∧
      AssemblesTo maxOperand (.rx cmd b) (.rx cmd n) b 0 ∧
      AssemblesTo maxOperand (.txw cmd b) (.txw cmd n) b 0) ∧
    (∀ value : Word, AssemblesTo maxOperand (.leenc value) .leenc [] value.toNat) ∧
    (∀ retries delayMs : Half,
      AssemblesTo maxOperand (.init retries delayMs) .init [] (retries.toNat * 65536 + delayMs.toNat)) ∧
    AssemblesTo maxOperand .cliff .cliff [] 0

/-! ## The codec operations -/

/-- R111: CKSUM finishes with one byte, 255 minus the operand bytes' sum modulo 256. Nothing changes but
the latch, the response, LAST_RESULT, SEQ and STATE (the last two as `finish` writes them, R157). -/
def Obligations.CksumReturnsTheComplementOfTheByteSum : Prop :=
  ∀ (n : Byte) (s : State),
    exec (.cksum n) s = .next
      { s with
        latch := latched 0x1 0 n s
        rsp :=
          { valid := true, result := .ok, n := 1, bytes := [complementOfSum (portBytes n.toNat s)]
            value := (complementOfSum (portBytes n.toNat s)).setWidth 32 }
        lastResult := .ok, seq := .plain, st := .idle }

/-- R112, the five checksum laws. -/
def Obligations.ChecksumLaws : Prop :=
  checksum [] = 0xFF ∧
  (∀ s t : List Byte, byteSum s % 256 = byteSum t % 256 → checksum s = checksum t) ∧
  (∀ s t : List Byte, s.Perm t → checksum s = checksum t) ∧
  (∀ s t : List Byte, checksum (s ++ [0] ++ t) = checksum (s ++ t)) ∧
  (∀ s : List Byte, (byteSum s + (checksum s).toNat) % 256 = 0xFF) ∧
  (∀ s : List Byte, checksum (s ++ [checksum s]) = 0x00) ∧
  (∀ (s t : List Byte) (b d : Byte),
    checksum (s ++ [b + d] ++ t) = checksum (s ++ [b] ++ t) - d) ∧
  (∀ (s t u : List Byte) (a b d : Byte),
    checksum (s ++ [a + d] ++ t ++ [b - d] ++ u) = checksum (s ++ [a] ++ t ++ [b] ++ u))

/-- R84: a frame satisfies the checksum law exactly when its bytes sum to 255 modulo 256. -/
def Obligations.FrameIsValidExactlyWhenItsBytesSumTo255 : Prop :=
  ∀ f : List Byte, f ≠ [] →
    (f.getLast? = some (checksum f.dropLast) ↔ byteSum f % 256 = 0xFF)

/-- R81: the frame the encoder builds, byte by byte. -/
def Obligations.EncodedFrameHasTheOutboundFormat : Prop :=
  ∀ (c : Config) (cmd : Byte) (p : List Byte),
    (encodeFrame c cmd p).length = p.length + 3 ∧
    (encodeFrame c cmd p)[0]? = some (BitVec.ofNat 8 ((p.length + c.lenBias) % 256)) ∧
    (encodeFrame c cmd p)[1]? = some cmd ∧
    (∀ j, j < p.length → (encodeFrame c cmd p)[j + 2]? = p[j]?) ∧
    (encodeFrame c cmd p)[p.length + 2]? =
      some (complementOfSum
        ([BitVec.ofNat 8 ((p.length + c.lenBias) % 256), cmd] ++ p))

/-- R114: ENCODE finishes with the outbound frame of CMD and the operand bytes, N + 3 bytes. `rsp_n` is
N + 3 where 8 bits hold it; at N = 253 it is a free value (log 7). -/
def Obligations.EncodeReturnsTheOutboundFrame : Prop :=
  ∀ (cmd n : Byte) (s : State), ∃ (k : Byte) (count : Nat),
    (n.toNat ≤ 252 → k.toNat = n.toNat + 3 ∧ count = s.freeCount) ∧
    exec (.encode cmd n) s = .next
      { s with
        latch := latched 0x2 cmd n s
        rsp :=
          { valid := true, result := .ok, n := k, bytes := wireFrame s.cfg cmd (portBytes n.toNat s)
            value := 0 }
        lastResult := .ok, seq := .plain, st := .idle, freeCount := count }

/-- R115 and R116: LEENC finishes with the minimal little-endian bytes of `req_value`: they are its value
when P_LE_WIDTH is the spec's 32 (or more), there are no more than the width or the value needs, and the
last is not zero. Of a narrower P_LE_WIDTH they are the low P_LE_WIDTH bits, the model's choice (log 16). -/
def Obligations.LeencReturnsTheMinimalLittleEndianBytes : Prop :=
  ∀ s : State, ∃ b : List Byte,
    b.length ≤ 4 ∧ b.length ≤ (s.cfg.leWidth + 7) / 8 ∧ b.getLast? ≠ some 0 ∧
    b.foldr (fun x acc => x.toNat + 256 * acc) 0 = s.req.value.toNat % 2 ^ s.cfg.leWidth ∧
    (32 ≤ s.cfg.leWidth →
      b.foldr (fun x acc => x.toNat + 256 * acc) 0 = s.req.value.toNat) ∧
    exec .leenc s = .next
      { s with
        latch := latched 0x4 0 0 s
        rsp :=
          { valid := true, result := .ok, n := BitVec.ofNat 8 b.length, bytes := b
            value := s.req.value }
        lastResult := .ok, seq := .plain, st := .idle }

/-- R117, R119 and R120: DECODE of a frame it accepts finishes with the bytes 2 to n-2 and E_NONE, and
writes the status registers of the row of R119 that CMD selects, no others. -/
def Obligations.DecodeOfAGoodFrameWritesItsRegisters : Prop :=
  ∀ (cmd n : Byte) (s : State), s.cfg.legal = true →
    GoodFrame s.cfg (portBytes n.toNat s) cmd →
    ∃ f : StatusFile,
      exec (.decode cmd n) s = .next
        { s with
          status := f
          latch := latched 0x3 cmd n s
          rsp :=
            { valid := true, result := .ok, n := BitVec.ofNat 8 (n.toNat - 3)
              bytes := ((portBytes n.toNat s).drop 2).dropLast
              value := s.cfg.code.eNone.setWidth 32 }
          lastResult := .ok, seq := .plain, st := .idle } ∧
      (cmd = s.cfg.cmd.errorRead → f = { s.status with err := s.req.bytes.getD 2 0 }) ∧
      (cmd = s.cfg.cmd.completionRead → f = { s.status with cmpl := s.req.bytes.getD 2 0 }) ∧
      (cmd = s.cfg.cmd.lineSensor →
        f = { s.status with
              line := s.req.bytes.getD 2 0
              cliffRaw := s.req.bytes.getD 2 0 &&& s.cfg.cliffMask != 0 }) ∧
      (cmd = s.cfg.cmd.frontDistance →
        f = { s.status with
              dist := BitVec.ofNat 16
                ((s.req.bytes.getD 2 0).toNat + 256 * (s.req.bytes.getD 3 0).toNat) }) ∧
      (cmd = s.cfg.cmd.version → f = { s.status with version := s.req.bytes.getD 2 0 }) ∧
      (cmd = s.cfg.cmd.commsReset → f = { s.status with resetAck := s.req.bytes.getD 2 0 }) ∧
      (cmd ∉ [s.cfg.cmd.errorRead, s.cfg.cmd.completionRead, s.cfg.cmd.lineSensor,
              s.cfg.cmd.frontDistance, s.cfg.cmd.version, s.cfg.cmd.commsReset] → f = s.status)

/-- R118 and R120: DECODE of a frame it rejects finishes OK with the first failure of the order of R118 in
`rsp_value` and no bytes, and writes no status register. -/
def Obligations.DecodeOfABadFrameReportsTheFirstFailure : Prop :=
  ∀ (cmd n code : Byte) (s : State), BadFrame s.cfg (portBytes n.toNat s) cmd code →
    exec (.decode cmd n) s = .next
      { s with
        latch := latched 0x3 cmd n s
        rsp := bareReply .ok (code.setWidth 32)
        lastResult := .ok, seq := .plain, st := .idle }

/-- R121: decoding an encoded frame gives the parameters back, from one parameter on (two for the
front-distance id); with fewer the frame is too short. -/
def Obligations.DecodeOfEncodedFrameRecoversTheParameters : Prop :=
  ∀ (c : Config) (cmd : Byte) (p : List Byte),
    ((1 ≤ p.length ∧ (cmd = c.cmd.frontDistance → 2 ≤ p.length)) →
      decodeFrame c (encodeFrame c cmd p) cmd = .good p) ∧
    (¬ (1 ≤ p.length ∧ (cmd = c.cmd.frontDistance → 2 ≤ p.length)) →
      decodeFrame c (encodeFrame c cmd p) cmd = .failed c.code.eReadError)

/-- R125: the decoder does not check the length byte: with the checksum made right, any length byte is
accepted, for any payload. -/
def Obligations.DecoderIgnoresTheLengthByte : Prop :=
  ∀ (c : Config) (len e : Byte) (pl : List Byte),
    1 ≤ pl.length → (e = c.cmd.frontDistance → 2 ≤ pl.length) →
    decodeFrame c ([len, e] ++ pl ++ [complementOfSum ([len, e] ++ pl)]) e = .good pl

/-- R112 (5) at the decoder: an accepted frame with one byte changed, wherever it stands, is rejected with
the checksum code. -/
def Obligations.EverySingleByteErrorIsDetected : Prop :=
  ∀ (c : Config) (raw : List Byte) (e : Byte) (pl : List Byte) (j : Nat) (b old : Byte),
    decodeFrame c raw e = .good pl → raw[j]? = some old → b ≠ old →
    decodeFrame c (raw.set j b) e = .failed c.code.eRxChecksum

/-! ## The accepting step of the engine and sequencer operations -/

/-- R141 to R143 and R170: TX latches the request, builds the frame once, clears ATTEMPTS and PFAIL, and
issues the primary BusWrite. -/
def Obligations.TxStartsATransmitRun : Prop :=
  ∀ (cmd n : Byte) (s : State),
    exec (.tx cmd n) s = .next
      { s with
        latch := latched 0x5 cmd n s
        seq := .plain
        run :=
          { ecmd := cmd, edir := .tx, eframe := wireFrame s.cfg cmd (portBytes n.toNat s)
            eframeN := n.toNat + 3 }
        attempts := 0
        pfail := s.cfg.code.eNone
        bus := some (.write s.cfg.devAddr (wireFrame s.cfg cmd (portBytes n.toNat s)))
        st := .eWr }

/-- R141 to R143 and R171: RX does the same in the RX direction. -/
def Obligations.RxStartsAReceiveRun : Prop :=
  ∀ (cmd n : Byte) (s : State),
    exec (.rx cmd n) s = .next
      { s with
        latch := latched 0x6 cmd n s
        seq := .plain
        run :=
          { ecmd := cmd, edir := .rx, eframe := wireFrame s.cfg cmd (portBytes n.toNat s)
            eframeN := n.toNat + 3 }
        attempts := 0
        pfail := s.cfg.code.eNone
        bus := some (.write s.cfg.devAddr (wireFrame s.cfg cmd (portBytes n.toNat s)))
        st := .eWr }

/-- R181: TXW clears ABANDONED_ANY and starts its actuation run. -/
def Obligations.TxwStartsItsActuationRun : Prop :=
  ∀ (cmd n : Byte) (s : State),
    exec (.txw cmd n) s = .next
      { s with
        latch := latched 0x7 cmd n s
        abandonedAny := false
        seq := .txwTx
        run :=
          { ecmd := cmd, edir := .tx, eframe := wireFrame s.cfg cmd (portBytes n.toNat s)
            eframeN := n.toNat + 3 }
        attempts := 0
        pfail := s.cfg.code.eNone
        bus := some (.write s.cfg.devAddr (wireFrame s.cfg cmd (portBytes n.toNat s)))
        st := .eWr }

/-- R194: CLIFF starts a receive run of the line-sensor command with no parameters. -/
def Obligations.CliffStartsItsSensorRun : Prop :=
  ∀ s : State,
    exec .cliff s = .next
      { s with
        latch := latched 0x9 0 0 s
        seq := .cliff
        run :=
          { ecmd := s.cfg.cmd.lineSensor, edir := .rx
            eframe := wireFrame s.cfg s.cfg.cmd.lineSensor [], eframeN := 3 }
        attempts := 0
        pfail := s.cfg.code.eNone
        bus := some (.write s.cfg.devAddr (wireFrame s.cfg s.cfg.cmd.lineSensor []))
        st := .eWr }

/-- R189 and R190: INIT latches retries and delayMs, clears its counter, and scans; with no retries it
finishes INIT_FAILED at once. -/
def Obligations.InitScansOrFailsAtOnce : Prop :=
  ∀ (s : State) (retries delayMs : Half),
    s.req.value.toNat = retries.toNat * 65536 + delayMs.toNat →
    (retries ≠ 0 →
      exec .init s = .next
        { s with
          latch := latched 0x8 0 0 s
          init := { count := 0, retries := retries, delayMs := delayMs }
          bus := some .scan, st := .iScan }) ∧
    (retries = 0 →
      exec .init s = .next
        { s with
          latch := latched 0x8 0 0 s
          init := { count := 0, retries := retries, delayMs := delayMs }
          rsp := bareReply .initFailed 0, lastResult := .initFailed, seq := .plain, st := .idle })

/-! ## The answers of an attempt -/

/-- R145, R147 and R148, the OK answers to the two writes of an attempt: the primary write is followed by
the primary read of 4 or 5 bytes (RX) or by the error poll (TX), the poll's write by its read. -/
def Obligations.AnsweredWritesAreFollowedByTheNextTransaction : Prop :=
  ∀ s : State, BusAnswered s .ok →
    (s.st = .eWr → s.run.edir = .rx →
      step s = .next (drive
        { busTaken s with
          bus := some (.read s.cfg.devAddr
            (if s.run.ecmd = s.cfg.cmd.frontDistance then 5 else 4))
          st := .eRd })) ∧
    (s.st = .eWr → s.run.edir = .tx →
      step s = .next (drive
        { busTaken s with
          bus := some (.write s.cfg.devAddr (wireFrame s.cfg s.cfg.cmd.errorRead []))
          st := .pWr })) ∧
    (s.st = .pWr →
      step s = .next (drive
        { busTaken s with bus := some (.read s.cfg.devAddr 4), st := .pRd }))

/-- R146: the primary read's bytes are decoded for ECMD; PFAIL takes the outcome and the poll follows
either way. A rejected frame writes no status register; an accepted one writes as `writebackStatus`
(whose rows `DecodeOfAGoodFrameWritesItsRegisters` states). -/
def Obligations.PrimaryReadIsDecodedAndThePollFollows : Prop :=
  ∀ (s : State) (raw : List Byte), s.st = .eRd → BusAnswered s (.data raw) →
    (∀ code, BadFrame s.cfg raw s.run.ecmd code →
      step s = .next (drive
        { busTaken s with
          pfail := code
          bus := some (.write s.cfg.devAddr (wireFrame s.cfg s.cfg.cmd.errorRead []))
          st := .pWr })) ∧
    (GoodFrame s.cfg raw s.run.ecmd →
      step s = .next (drive
        { busTaken s with
          status := writebackStatus s.cfg raw s.run.ecmd s.status
          pfail := s.cfg.code.eNone
          bus := some (.write s.cfg.devAddr (wireFrame s.cfg s.cfg.cmd.errorRead []))
          st := .pWr }))

/-- R144 and R210: ABSENT to any transaction of an attempt counts a failed attempt and backs off; no
register but ATTEMPTS changes. -/
def Obligations.AbsentAnswerCountsAndBacksOff : Prop :=
  ∀ s : State, s.st.inAttempt = true → BusAnswered s .absent →
    step s = .next (drive
      { busTaken s with
        attempts := s.attempts + 1, timer := some s.cfg.backoffAbsentMs, st := .backoff })

/-- R160 and R211: FAULT to any transaction ends the operation at once with result FAULT, whatever SEQ is;
no status register changes. -/
def Obligations.FaultAnswerEndsTheOperation : Prop :=
  ∀ s : State,
    (s.st.inAttempt = true ∨ s.st = .lWr ∨ s.st = .lRd ∨ s.st = .iScan ∨ s.st = .iWr) →
    BusAnswered s .fault →
    step s = .next (drive
      { busTaken s with
        rsp := bareReply .fault 0, lastResult := .fault, seq := .plain, st := .idle })

/-- R151 and R152 step f: the attempt fails when the poll frame itself fails (protocol failures counted),
when the device reports any code but E_NONE, E_START_KEY and E_CLIFF, when it reports E_NONE after a
primary frame that failed (counted), and, with protocol failures not counted, when the poll frame fails
while the stale ERR holds such a code (R258). OUTCOME takes the code, ERR only what a valid poll frame
reports. -/
def Obligations.FailedAttemptIsRecordedAndBacksOff : Prop :=
  ∀ (s : State) (raw : List Byte), s.st = .pRd → BusAnswered s (.data raw) →
    (∀ code, s.cfg.protocolFailCounts = true → BadFrame s.cfg raw s.cfg.cmd.errorRead code →
      step s = .next (drive
        { busTaken s with
          outcome := code, attempts := s.attempts + 1
          timer := some s.cfg.backoffErrorMs, st := .backoff })) ∧
    (∀ b, PollReads s.cfg raw b →
      b ∉ [s.cfg.code.eNone, s.cfg.code.eStartKey, s.cfg.code.eCliff] →
      step s = .next (drive
        { busTaken s with
          status := { s.status with err := b }
          outcome := b, attempts := s.attempts + 1
          timer := some s.cfg.backoffErrorMs, st := .backoff })) ∧
    (s.cfg.protocolFailCounts = true → PollReads s.cfg raw s.cfg.code.eNone →
      PfailLocal s → s.pfail ≠ s.cfg.code.eNone →
      step s = .next (drive
        { busTaken s with
          status := { s.status with err := s.cfg.code.eNone }
          outcome := s.pfail, attempts := s.attempts + 1
          timer := some s.cfg.backoffErrorMs, st := .backoff })) ∧
    (∀ code, s.cfg.protocolFailCounts = false → BadFrame s.cfg raw s.cfg.cmd.errorRead code →
      s.status.err ∉ [s.cfg.code.eNone, s.cfg.code.eStartKey, s.cfg.code.eCliff] →
      step s = .next (drive
        { busTaken s with
          outcome := s.status.err, attempts := s.attempts + 1
          timer := some s.cfg.backoffErrorMs, st := .backoff }))

/-- R152 step d, R158 and R216: a valid poll frame that reports the start key asserts host_reset_req,
issues one HostReset and enters RESTART; no response is presented, whatever PFAIL holds. With protocol
failures not counted, a poll frame that fails while the stale ERR holds E_START_KEY does the same (R258).
`hostResets` is the model's count of the HostReset requests (log 13). -/
def Obligations.StartKeyReportEntersRestart : Prop :=
  ∀ (s : State) (raw : List Byte), s.st = .pRd → BusAnswered s (.data raw) →
    (PollReads s.cfg raw s.cfg.code.eStartKey →
      step s = .next (drive
        { busTaken s with
          status := { s.status with err := s.cfg.code.eStartKey }
          outcome := s.cfg.code.eStartKey
          hostResetReq := true, hostResets := s.hostResets + 1, st := .restart })) ∧
    (∀ code, s.cfg.protocolFailCounts = false → BadFrame s.cfg raw s.cfg.cmd.errorRead code →
      s.status.err = s.cfg.code.eStartKey →
      step s = .next (drive
        { busTaken s with
          outcome := s.cfg.code.eStartKey
          hostResetReq := true, hostResets := s.hostResets + 1, st := .restart }))

/-- R152 step e and R217: a valid poll frame that reports the cliff enters the lockout; ATTEMPTS and
EFRAME are kept. With protocol failures not counted, a poll frame that fails while the stale ERR holds
E_CLIFF does the same (R258). -/
def Obligations.CliffReportEntersTheLockout : Prop :=
  ∀ (s : State) (raw : List Byte), s.st = .pRd → BusAnswered s (.data raw) →
    (PollReads s.cfg raw s.cfg.code.eCliff →
      step s = .next (drive
        { busTaken s with
          status := { s.status with err := s.cfg.code.eCliff }
          outcome := s.cfg.code.eCliff
          timer := some s.cfg.cliffPollMs, st := .lWait })) ∧
    (∀ code, s.cfg.protocolFailCounts = false → BadFrame s.cfg raw s.cfg.cmd.errorRead code →
      s.status.err = s.cfg.code.eCliff →
      step s = .next (drive
        { busTaken s with
          outcome := s.cfg.code.eCliff
          timer := some s.cfg.cliffPollMs, st := .lWait }))

/-- R151 and R152 step c: the attempt succeeds when the device reports E_NONE and no counted failure of
the primary frame is pending; with protocol failures not counted, also when the poll frame fails while
ERR holds E_NONE (R258). The run then ends as R159 says. -/
def Obligations.CleanPollEndsTheRun : Prop :=
  ∀ (s : State) (raw : List Byte), s.st = .pRd → BusAnswered s (.data raw) →
    (PollReads s.cfg raw s.cfg.code.eNone →
      (s.pfail = s.cfg.code.eNone ∨ s.cfg.protocolFailCounts = false) →
      step s = .next (drive (engineReturn .ok
        { busTaken s with
          status := { s.status with err := s.cfg.code.eNone }
          outcome := s.cfg.code.eNone }))) ∧
    (∀ code, s.cfg.protocolFailCounts = false → BadFrame s.cfg raw s.cfg.cmd.errorRead code →
      s.status.err = s.cfg.code.eNone →
      step s = .next (drive (engineReturn .ok
        { busTaken s with outcome := s.cfg.code.eNone })))

/-- R143 and R153: after the backoff delay the same EFRAME is sent again while ATTEMPTS is within
P_MAX_RETRIES; past it the run ends ABANDONED. -/
def Obligations.BackoffResendsOrAbandons : Prop :=
  ∀ s : State, s.st = .backoff → DelayAnswered s →
    (s.attempts.toNat ≤ s.cfg.maxRetries.toNat →
      step s = .next (drive
        { delayTaken s with
          pfail := s.cfg.code.eNone
          bus := some (.write s.cfg.devAddr (s.run.eframe.take s.run.eframeN)), st := .eWr })) ∧
    (s.cfg.maxRetries.toNat < s.attempts.toNat →
      step s = .next (drive (engineReturn .abandoned (delayTaken s))))

/-- R154 to R156: the lockout re-polls after each delay, an ABSENT answer or a frame that leaves ERR at
E_CLIFF repeats it, any other ERR ends it through the pause, if there is one, and the original frame is
sent again with ATTEMPTS = 0. -/
def Obligations.LockoutRepollsUntilTheCliffClears : Prop :=
  ∀ s : State,
    (s.st = .lWait → DelayAnswered s →
      step s = .next (drive
        { delayTaken s with
          bus := some (.write s.cfg.devAddr (wireFrame s.cfg s.cfg.cmd.errorRead []))
          st := .lWr })) ∧
    (s.st = .lWr → BusAnswered s .ok →
      step s = .next (drive
        { busTaken s with bus := some (.read s.cfg.devAddr 4), st := .lRd })) ∧
    ((s.st = .lWr ∨ s.st = .lRd) → BusAnswered s .absent →
      step s = .next (drive
        { busTaken s with timer := some s.cfg.cliffPollMs, st := .lWait })) ∧
    (∀ raw code, s.st = .lRd → BusAnswered s (.data raw) → s.status.err = s.cfg.code.eCliff →
      BadFrame s.cfg raw s.cfg.cmd.errorRead code →
      step s = .next (drive
        { busTaken s with timer := some s.cfg.cliffPollMs, st := .lWait })) ∧
    (∀ raw b, s.st = .lRd → BusAnswered s (.data raw) → PollReads s.cfg raw b →
      (b = s.cfg.code.eCliff →
        step s = .next (drive
          { busTaken s with
            status := { s.status with err := b }
            timer := some s.cfg.cliffPollMs, st := .lWait })) ∧
      (b ≠ s.cfg.code.eCliff → s.cfg.cliffClearPauseMs ≠ 0 →
        step s = .next (drive
          { busTaken s with
            status := { s.status with err := b }
            timer := some s.cfg.cliffClearPauseMs, st := .lPause })) ∧
      (b ≠ s.cfg.code.eCliff → s.cfg.cliffClearPauseMs = 0 →
        step s = .next (drive
          { busTaken s with
            status := { s.status with err := b }
            attempts := 0, pfail := s.cfg.code.eNone
            bus := some (.write s.cfg.devAddr (s.run.eframe.take s.run.eframeN))
            st := .eWr }))) ∧
    (s.st = .lPause → DelayAnswered s →
      step s = .next (drive
        { delayTaken s with
          attempts := 0, pfail := s.cfg.code.eNone
          bus := some (.write s.cfg.devAddr (s.run.eframe.take s.run.eframeN)), st := .eWr }))

/-- R158: in RESTART, with `rst` not asserted, no register changes and nothing is issued, whatever stands on
the request, transport and timer ports; with nothing more from the environment there is no step. Saying
"no step" by a named fault, and the environment's move alone, are the model's choices (log 3, log 25). -/
def Obligations.RestartTakesNoStep : Prop :=
  ∀ s : State, s.cfg.legal = true → s.rst = false → s.st = .restart →
    (s.script = [] → step s = .fault .restartHeld) ∧
    (s.script ≠ [] → step s = .next (drive (openStep s)))

/-- R55 and R240: `rst`, in any state and whatever else arrives, gives every register its reset value, and
so does power-on (`State.reset`). -/
def Obligations.ResetGivesEveryRegisterItsResetValue : Prop :=
  HasResetValues State.reset ∧
  ∀ s : State, s.cfg.legal = true → s.rst = true →
    ∃ t, step s = .next t ∧ HasResetValues t ∧ t.cfg = s.cfg

/-! ## The end of a run, TXW, INIT and CLIFF -/

/-- R159, R182, R184 and R195: where a run that ends with `r` goes, by SEQ. -/
def Obligations.RunEndContinuesBySeq : Prop :=
  ∀ (r : Result) (s : State),
    (s.seq = .plain →
      engineReturn r s =
        { s with rsp := bareReply r 0, lastResult := r, seq := .plain, st := .idle }) ∧
    (s.seq = .txwTx →
      engineReturn r s =
        { s with
          abandonedAny := s.abandonedAny || r == .abandoned
          seq := .txwCmpl
          run :=
            { ecmd := s.cfg.cmd.completionRead, edir := .rx
              eframe := wireFrame s.cfg s.cfg.cmd.completionRead [], eframeN := 3 }
          attempts := 0
          pfail := s.cfg.code.eNone
          bus := some (.write s.cfg.devAddr (wireFrame s.cfg s.cfg.cmd.completionRead []))
          st := .eWr }) ∧
    (s.seq = .txwCmpl → s.status.cmpl ≠ 0 →
      engineReturn r s =
        { s with
          abandonedAny := s.abandonedAny || r == .abandoned
          timer := some s.cfg.completionPollMs, st := .cWait }) ∧
    (s.seq = .txwCmpl → s.status.cmpl = 0 →
      ∃ q, (q = .abandoned ↔ s.abandonedAny = true ∨ r = .abandoned) ∧ (q ≠ .abandoned → q = .ok) ∧
        engineReturn r s =
          { s with
            abandonedAny := s.abandonedAny || r == .abandoned
            rsp := bareReply q 0, lastResult := q, seq := .plain, st := .idle }) ∧
    (s.seq = .cliff → s.status.cliffRaw = true →
      engineReturn r s =
        { s with
          status := { s.status with cliffFilt := true, cliffCnt := 0 }
          rsp := bareReply r 1, lastResult := r, seq := .plain, st := .idle }) ∧
    (s.seq = .cliff → s.status.cliffRaw = false →
      ∃ (cnt : BitVec 2) (filt : Bool),
        cnt.toNat = min (s.status.cliffCnt.toNat + 1) 3 ∧
        (filt = true ↔ s.status.cliffFilt = true ∧ cnt.toNat < s.cfg.cliffClearCount) ∧
        engineReturn r s =
          { s with
            status := { s.status with cliffCnt := cnt, cliffFilt := filt }
            rsp := bareReply r (if filt then 1 else 0)
            lastResult := r, seq := .plain, st := .idle })

/-- R185: after the delay between completion polls the completion read starts again, SEQ unchanged. -/
def Obligations.CompletionDelayStartsTheNextPoll : Prop :=
  ∀ s : State, s.st = .cWait → DelayAnswered s →
    step s = .next (drive
      { delayTaken s with
        run :=
          { ecmd := s.cfg.cmd.completionRead, edir := .rx
            eframe := wireFrame s.cfg s.cfg.cmd.completionRead [], eframeN := 3 }
        attempts := 0
        pfail := s.cfg.code.eNone
        bus := some (.write s.cfg.devAddr (wireFrame s.cfg s.cfg.cmd.completionRead []))
        st := .eWr })

/-- R190 to R193: one INIT attempt: a scan that shows the device sends the start-key frame, whose OK
finishes INIT; a scan without it, or a write answered ABSENT, waits I_DELAY; DONE counts the attempt and
scans again or finishes INIT_FAILED. -/
def Obligations.InitAttemptFollowsTheAnswers : Prop :=
  ∀ s : State,
    (∀ present, s.st = .iScan → BusAnswered s (.devices present) →
      (s.cfg.devAddr ∈ present →
        step s = .next (drive
          { busTaken s with
            bus := some (.write s.cfg.devAddr
              (wireFrame s.cfg s.cfg.cmd.startKey s.cfg.startKeyParams))
            st := .iWr })) ∧
      (s.cfg.devAddr ∉ present →
        step s = .next (drive
          { busTaken s with timer := some s.init.delayMs, st := .iWait }))) ∧
    (s.st = .iWr → BusAnswered s .ok →
      step s = .next (drive
        { busTaken s with
          rsp := bareReply .ok 0, lastResult := .ok, seq := .plain, st := .idle })) ∧
    (s.st = .iWr → BusAnswered s .absent →
      step s = .next (drive
        { busTaken s with timer := some s.init.delayMs, st := .iWait })) ∧
    (s.st = .iWait → DelayAnswered s → s.init.count.toNat < s.init.retries.toNat →
      (s.init.count.toNat + 1 < s.init.retries.toNat →
        step s = .next (drive
          { delayTaken s with
            init := { s.init with count := s.init.count + 1 }
            bus := some .scan, st := .iScan })) ∧
      (s.init.count.toNat + 1 = s.init.retries.toNat →
        step s = .next (drive
          { delayTaken s with
            init := { s.init with count := s.init.count + 1 }
            rsp := bareReply .initFailed 0, lastResult := .initFailed
            seq := .plain, st := .idle })))

/-- R196 with the source's P_CLIFF_CLEAR_COUNT = 3: a detection sets the filtered status, which stays
active through two consecutive non-detections and clears at the third, for good; from a clear status
non-detections keep it clear. The CLIFF operation returns it in `rsp_value`. -/
def Obligations.FilteredCliffClearsAtTheThirdNonDetection : Prop :=
  ∀ (r : Result) (s : State) (k : Nat), s.cfg.cliffClearCount = 3 →
    (Nat.iterate (cliffUpdate r false) k (cliffUpdate r true s)).status.cliffFilt = decide (k < 3) ∧
    (Nat.iterate (cliffUpdate r false) k (cliffUpdate r true s)).status.cliffCnt.toNat = min k 3 ∧
    (Nat.iterate (cliffUpdate r false) k (cliffUpdate r true s)).rsp.value =
      (if k < 3 then 1 else 0) ∧
    (s.status.cliffFilt = false →
      (Nat.iterate (cliffUpdate r false) k s).status.cliffFilt = false)

/-! ## Rules about the whole machine -/

/-- R41: the map of the status read port, bit by bit where a row has fields, with the STATE codes of R42 and
the result codes of R92. -/
def Obligations.ReadPortShowsTheRegisterMap : Prop :=
  ∀ s : State,
    (readPort s 0x0).toNat = s.status.err.toNat ∧
    (readPort s 0x1).toNat = s.status.cmpl.toNat ∧
    (readPort s 0x2).toNat = s.status.line.toNat ∧
    readPort s 0x3 = s.status.dist ∧
    (readPort s 0x4).toNat =
      s.status.cliffRaw.toNat + 2 * s.status.cliffFilt.toNat + 4 * s.status.cliffCnt.toNat ∧
    (readPort s 0x5).toNat = s.status.version.toNat ∧
    (readPort s 0x6).toNat = s.status.resetAck.toNat ∧
    (readPort s 0x7).toNat = s.attempts.toNat ∧
    (readPort s 0x8).toNat =
      (match s.st with
        | .idle => 0 | .eWr => 1 | .eRd => 2 | .pWr => 3 | .pRd => 4 | .backoff => 5
        | .lWait => 6 | .lWr => 7 | .lRd => 8 | .lPause => 9 | .restart => 10 | .cWait => 11
        | .iScan => 12 | .iWr => 13 | .iWait => 14) ∧
    (readPort s 0x9).toNat = s.outcome.toNat ∧
    (readPort s 0xA).toNat =
      (match s.lastResult with
        | .ok => 0 | .abandoned => 1 | .fault => 2 | .initFailed => 3 | .refused => 4) ∧
    ∀ a : BitVec 4, 0xB ≤ a.toNat → readPort s a = 0

/-- R40: outside reset a status register changes only by an accepted frame of its own id that reached the
decoder in this step, to the value R119 gives, and the debounce pair only at the end of a CLIFF run. -/
def Obligations.StatusRegistersChangeOnlyByDecodedFrames : Prop :=
  ∀ s t : State, s.rst = false → step s = .next t →
    (t.status.err ≠ s.status.err → ∃ raw, Received s raw s.cfg.cmd.errorRead ∧
      GoodFrame s.cfg raw s.cfg.cmd.errorRead ∧ raw[2]? = some t.status.err) ∧
    (t.status.cmpl ≠ s.status.cmpl → ∃ raw, Received s raw s.cfg.cmd.completionRead ∧
      GoodFrame s.cfg raw s.cfg.cmd.completionRead ∧ raw[2]? = some t.status.cmpl) ∧
    ((t.status.line ≠ s.status.line ∨ t.status.cliffRaw ≠ s.status.cliffRaw) →
      ∃ raw, Received s raw s.cfg.cmd.lineSensor ∧
        GoodFrame s.cfg raw s.cfg.cmd.lineSensor ∧ raw[2]? = some t.status.line ∧
        t.status.cliffRaw = (t.status.line &&& s.cfg.cliffMask != 0)) ∧
    (t.status.dist ≠ s.status.dist → ∃ raw lo hi, Received s raw s.cfg.cmd.frontDistance ∧
      GoodFrame s.cfg raw s.cfg.cmd.frontDistance ∧ raw[2]? = some lo ∧ raw[3]? = some hi ∧
      t.status.dist.toNat = lo.toNat + 256 * hi.toNat) ∧
    (t.status.version ≠ s.status.version → ∃ raw, Received s raw s.cfg.cmd.version ∧
      GoodFrame s.cfg raw s.cfg.cmd.version ∧ raw[2]? = some t.status.version) ∧
    (t.status.resetAck ≠ s.status.resetAck → ∃ raw, Received s raw s.cfg.cmd.commsReset ∧
      GoodFrame s.cfg raw s.cfg.cmd.commsReset ∧ raw[2]? = some t.status.resetAck) ∧
    ((t.status.cliffCnt ≠ s.status.cliffCnt ∨ t.status.cliffFilt ≠ s.status.cliffFilt) →
      s.seq = .cliff ∧ t.st = .idle ∧ t.rsp.valid = true)

/-- R245: no step changes the configuration. -/
def Obligations.ConfigurationNeverChanges : Prop :=
  ∀ s t : State, step s = .next t → t.cfg = s.cfg

/-- R50, R75 and R252: while an operation is in progress the request port has no effect: the same step is
taken whatever stands on it, up to the port itself, and the request latch is kept. -/
def Obligations.BusyBlockIgnoresTheRequestPort : Prop :=
  ∀ (s : State) (p : RequestPort), s.st ≠ .idle →
    (∀ t, step s = .next t →
      (∃ q, step { s with req := p } = .next { t with req := q }) ∧
      (s.rst = false → t.latch = s.latch)) ∧
    (∀ f, step s = .fault f → step { s with req := p } = .fault f) ∧
    (∀ f, step s = .refused f → step { s with req := p } = .refused f)

/-- R165 and R240: in a wait state no register changes until the outstanding answer arrives; an answer that
is late, or that nothing waits for, is discarded; with nothing more from the environment there is no
step. The named faults, the `late` mark and the environment's move alone are the model's choices (log 3,
log 11, log 25). -/
def Obligations.NoStepWithoutTheOutstandingAnswer : Prop :=
  ∀ s : State, s.cfg.legal = true → s.rst = false → s.st ≠ .idle →
    (s.bus = none ∨ s.busIn = none ∨ ∃ a, s.busIn = some { answer := a, late := true }) →
    (s.timer = none ∨ s.timerIn = none ∨ s.timerIn = some { late := true }) →
    (s.script ≠ [] → step s = .next (drive (openStep s))) ∧
    (s.script = [] →
      step s = .fault .waitsForTransport ∨ step s = .fault .waitsForTimer ∨
      step s = .fault .restartHeld)

/-! ## Invariants -/

/-- The state after reset is good, under every legal configuration: the values of R55 meet the rules that
`Good` joins. Two of its parts are the model's choices: that every field of the response port reads 0 while
`rsp_valid` is 0 (`ResponseFits`, log 8; R55 gives `rsp_valid` = 0 alone), and the counter `hostResets`
(`RestartFits`, log 13). -/
def Obligations.ResetStateIsGood : Prop :=
  Good State.reset ∧ ∀ c : Config, c.legal = true → Good (State.resetWith c)

/-- R42, R52, R53 and R72: every step keeps at most one request outstanding on the transport and timer
ports, the one that STATE waits for. -/
def Obligations.StepKeepsThePortsFitting : Prop :=
  ∀ s t : State, PortsFit s → step s = .next t → PortsFit t

/-- R43 and R161: every step keeps ATTEMPTS within P_MAX_RETRIES + 1, and within P_MAX_RETRIES in an
attempt. -/
def Obligations.StepKeepsTheRetryBound : Prop :=
  ∀ s t : State, RetryBounded s → step s = .next t → RetryBounded t

/-- R155, R163 and R216: every step keeps ERR at E_CLIFF while the lockout polls and at E_START_KEY in
RESTART. -/
def Obligations.StepKeepsTheInterlockStates : Prop :=
  ∀ s t : State, InterlockFits s → step s = .next t → InterlockFits t

/-- Every step keeps the whole invariant, from every state that meets it: the outstanding requests (R52,
R53), the retry budget (R43), RESTART (R54), the interlock states (R47, R155), SEQ, the run registers and
INIT's counter (R44, R46, R48), the latch (R45), the response port (R51) and the debounce pair (R195). Two
of its parts are the model's choices: that every field of the response port reads 0 while `rsp_valid` is 0
(`ResponseFits`, log 8), and the counter `hostResets` (`RestartFits`, log 13). -/
def Obligations.StepKeepsGoodStates : Prop :=
  ∀ s t : State, Good s → step s = .next t → Good t

/-- R250, for the engine runs of TX, RX, TXW and CLIFF: each answer a run takes outside the lockout and
RESTART brings it nearer to its end, but for the one that ends TXW's actuation run, whose successor run
starts in the same step; and every run that starts has 5 × (P_MAX_RETRIES + 1) answers to go at most. -/
def Obligations.EveryAnswerBringsTheRunNearerItsEnd : Prop :=
  (∀ s t : State, Good s → (s.st.inAttempt = true ∨ s.st = .backoff) →
    ((∃ a, BusAnswered s a) ∨ DelayAnswered s) → step s = .next t →
    (t.st.inAttempt = true ∨ t.st = .backoff) →
    stepsLeft t < stepsLeft s ∨
      (s.seq = .txwTx ∧ t.seq = .txwCmpl ∧ stepsLeft t = 5 * (s.cfg.maxRetries.toNat + 1))) ∧
  (∀ (s t : State) (cmd n : Byte),
    exec (.tx cmd n) s = .next t ∨ exec (.rx cmd n) s = .next t ∨ exec (.txw cmd n) s = .next t ∨
      exec .cliff s = .next t →
    stepsLeft t = 5 * (s.cfg.maxRetries.toNat + 1)) ∧
  (∀ s t : State, s.st = .cWait → DelayAnswered s → step s = .next t →
    stepsLeft t = 5 * (s.cfg.maxRetries.toNat + 1))

/-! ## Whole operations -/

/-- R261 and R171: RX with every answer OK and a clean poll finishes OK at the fifth step, with the status
registers that the two frames write. -/
def Obligations.CleanReceiveFinishesInFiveSteps : Prop :=
  ∀ (s : State) (cmd n : Byte) (raw poll : List Byte) (rest : List EnvMove),
    Offered s → presented s = .ok (.rx cmd n) →
    GoodFrame s.cfg raw cmd → raw.length ≤ (if cmd = s.cfg.cmd.frontDistance then 5 else 4) →
    PollReads s.cfg poll s.cfg.code.eNone →
    s.script = [answerMove .ok, answerMove (.data raw), answerMove .ok, answerMove (.data poll)]
      ++ rest →
    ∃ t, Sys2Proof.core.run 5 s = .next t ∧ t.st = .idle ∧ t.rsp = bareReply .ok 0 ∧
      t.lastResult = .ok ∧ t.attempts = 0 ∧ t.outcome = s.cfg.code.eNone ∧
      t.status = { writebackStatus s.cfg raw cmd s.status with err := s.cfg.code.eNone }

/-- R180 and R261: TXW with every answer OK, clean polls and a first completion read of 0 finishes OK at the
eighth step, with CMPL = 0. -/
def Obligations.CleanTransmitAndWaitFinishesInEightSteps : Prop :=
  ∀ (s : State) (cmd n : Byte) (poll raw poll2 : List Byte) (rest : List EnvMove),
    Offered s → presented s = .ok (.txw cmd n) → PollReads s.cfg poll s.cfg.code.eNone →
    FourByteFrame raw s.cfg.cmd.completionRead 0 → PollReads s.cfg poll2 s.cfg.code.eNone →
    s.script = [answerMove .ok, answerMove .ok, answerMove (.data poll), answerMove .ok,
      answerMove (.data raw), answerMove .ok, answerMove (.data poll2)] ++ rest →
    ∃ t, Sys2Proof.core.run 8 s = .next t ∧ t.st = .idle ∧ t.rsp = bareReply .ok 0 ∧
      t.lastResult = .ok ∧ t.status = { s.status with err := s.cfg.code.eNone, cmpl := 0 }

/-- R188 and R261: INIT with at least one retry, the device present on the first scan and its start-key
write answered OK finishes OK at the third step; no status register changes. -/
def Obligations.InitFinishesWhenTheDeviceAnswers : Prop :=
  ∀ (s : State) (present : List BusAddr) (rest : List EnvMove),
    Offered s → presented s = .ok .init → 65536 ≤ s.req.value.toNat → s.cfg.devAddr ∈ present →
    s.script = [answerMove (.devices present), answerMove .ok] ++ rest →
    ∃ t, Sys2Proof.core.run 3 s = .next t ∧ t.st = .idle ∧ t.rsp = bareReply .ok 0 ∧
      t.lastResult = .ok ∧ t.init.count = 0 ∧ t.status = s.status

/-- R194, R195 and R261: CLIFF with every answer OK and a clean poll finishes OK at the fifth step with the
filtered status in `rsp_value`. -/
def Obligations.CleanCliffReadFinishesInFiveSteps : Prop :=
  ∀ (s : State) (b : Byte) (raw poll : List Byte) (rest : List EnvMove),
    Offered s → presented s = .ok .cliff → FourByteFrame raw s.cfg.cmd.lineSensor b →
    PollReads s.cfg poll s.cfg.code.eNone →
    s.script = [answerMove .ok, answerMove (.data raw), answerMove .ok, answerMove (.data poll)]
      ++ rest →
    ∃ t, Sys2Proof.core.run 5 s = .next t ∧ t.st = .idle ∧ t.lastResult = .ok ∧
      t.rsp = bareReply .ok (if t.status.cliffFilt then 1 else 0) ∧
      t.status =
        { s.status with
          err := s.cfg.code.eNone, line := b, cliffRaw := t.status.cliffRaw
          cliffCnt := t.status.cliffCnt, cliffFilt := t.status.cliffFilt } ∧
      (b &&& s.cfg.cliffMask ≠ 0 →
        t.status.cliffRaw = true ∧ t.status.cliffCnt = 0 ∧ t.status.cliffFilt = true) ∧
      (b &&& s.cfg.cliffMask = 0 →
        t.status.cliffRaw = false ∧
        t.status.cliffCnt.toNat = min (s.status.cliffCnt.toNat + 1) 3 ∧
        (t.status.cliffFilt = true ↔
          s.status.cliffFilt = true ∧ t.status.cliffCnt.toNat < s.cfg.cliffClearCount))

/-- R161 and R261: TX with the device absent on k <= P_MAX_RETRIES attempts and then a clean attempt
finishes OK after 4 + 2k steps, with ATTEMPTS = k. -/
def Obligations.AbsenceWithinTheBudgetIsRetried : Prop :=
  ∀ (s : State) (cmd n : Byte) (k : Nat) (poll : List Byte) (rest : List EnvMove),
    Offered s → presented s = .ok (.tx cmd n) → k ≤ s.cfg.maxRetries.toNat →
    PollReads s.cfg poll s.cfg.code.eNone →
    s.script = (List.replicate k [answerMove .absent, doneMove]).flatten ++
      [answerMove .ok, answerMove .ok, answerMove (.data poll)] ++ rest →
    ∃ t, Sys2Proof.core.run (4 + 2 * k) s = .next t ∧ t.st = .idle ∧ t.rsp = bareReply .ok 0 ∧
      t.lastResult = .ok ∧ t.attempts.toNat = k ∧ t.outcome = s.cfg.code.eNone ∧
      t.status = { s.status with err := s.cfg.code.eNone }

/-- R161, R218 and D16: TX with the device absent on P_MAX_RETRIES + 1 attempts returns ABANDONED after the
last attempt's backoff delay, with no status register changed. -/
def Obligations.PersistentAbsenceIsAbandoned : Prop :=
  ∀ (s : State) (cmd n : Byte) (rest : List EnvMove),
    Offered s → presented s = .ok (.tx cmd n) →
    s.script = (List.replicate (s.cfg.maxRetries.toNat + 1)
      [answerMove .absent, doneMove]).flatten ++ rest →
    ∃ t, Sys2Proof.core.run (1 + 2 * (s.cfg.maxRetries.toNat + 1)) s = .next t ∧
      t.st = .idle ∧ t.rsp = bareReply .abandoned 0 ∧ t.lastResult = .abandoned ∧
      t.attempts.toNat = s.cfg.maxRetries.toNat + 1 ∧ t.status = s.status ∧
      t.outcome = s.outcome

/-- R161, R218 and R261: TX whose poll reads the same other error on every attempt returns ABANDONED after
1 + 4 × (P_MAX_RETRIES + 1) steps, with ERR and OUTCOME the device's code. -/
def Obligations.PersistentErrorIsAbandoned : Prop :=
  ∀ (s : State) (cmd n b : Byte) (poll : List Byte) (rest : List EnvMove),
    Offered s → presented s = .ok (.tx cmd n) → PollReads s.cfg poll b →
    b ∉ [s.cfg.code.eNone, s.cfg.code.eStartKey, s.cfg.code.eCliff] →
    s.script = (List.replicate (s.cfg.maxRetries.toNat + 1)
      [answerMove .ok, answerMove .ok, answerMove (.data poll), doneMove]).flatten ++ rest →
    ∃ t, Sys2Proof.core.run (1 + 4 * (s.cfg.maxRetries.toNat + 1)) s = .next t ∧
      t.st = .idle ∧ t.rsp = bareReply .abandoned 0 ∧ t.lastResult = .abandoned ∧
      t.attempts.toNat = s.cfg.maxRetries.toNat + 1 ∧ t.status = { s.status with err := b } ∧
      t.outcome = b

/-- R162: the lockout has no bound: after any number of re-polls that read E_CLIFF, fail to decode or are
answered ABSENT (R155), the block still waits in L_WAIT, with ATTEMPTS and EFRAME unchanged and no response.
The first step is the environment's move alone (log 25), and that the whole response port reads 0 at the
end is the model's choice (log 8). -/
def Obligations.LockoutLastsWhileTheCliffIsReported : Prop :=
  ∀ (s : State) (polls : List (List EnvMove)) (rest : List EnvMove),
    s.cfg.legal = true → s.rst = false → s.st = .lWait → s.timer ≠ none → s.timerIn = none →
    s.status.err = s.cfg.code.eCliff → polls ≠ [] →
    (∀ p ∈ polls,
      p = [doneMove, answerMove .absent] ∨ p = [doneMove, answerMove .ok, answerMove .absent] ∨
      ∃ raw, p = [doneMove, answerMove .ok, answerMove (.data raw)] ∧
        (PollReads s.cfg raw s.cfg.code.eCliff ∨
          (raw.length ≤ 4 ∧ ∃ code, BadFrame s.cfg raw s.cfg.cmd.errorRead code))) →
    s.script = polls.flatten ++ rest →
    ∃ t, Sys2Proof.core.run (1 + polls.flatten.length) s = .next t ∧ t.st = .lWait ∧
      t.attempts = s.attempts ∧ t.run = s.run ∧ t.status = s.status ∧ t.rsp = .quiet

/-- R193, R219 and R261: INIT with the device never present makes `retries` scans and returns INIT_FAILED
at step 2 × retries + 1; no status register changes. -/
def Obligations.InitFailsAfterItsRetries : Prop :=
  ∀ (s : State) (scans : List (List BusAddr)) (rest : List EnvMove),
    Offered s → presented s = .ok .init → s.req.value.toNat / 65536 = scans.length →
    (∀ a ∈ scans, s.cfg.devAddr ∉ a) →
    s.script = (scans.map fun a => [answerMove (.devices a), doneMove]).flatten ++ rest →
    ∃ t, Sys2Proof.core.run (2 * scans.length + 1) s = .next t ∧ t.st = .idle ∧
      t.rsp = bareReply .initFailed 0 ∧ t.lastResult = .initFailed ∧
      t.init.count.toNat = scans.length ∧ t.status = s.status

/-- R186: TXW's completion loop has no bound: after any number of completion reads of a nonzero byte with
clean polls, the block waits in C_WAIT again, with no response. The first step is the environment's move
alone (log 25), and that the whole response port reads 0 at the end is the model's choice (log 8). -/
def Obligations.CompletionLoopLastsWhileOutstanding : Prop :=
  ∀ (s : State) (k : Nat) (raw poll : List Byte) (b : Byte) (rest : List EnvMove),
    s.cfg.legal = true → s.rst = false → s.st = .cWait → s.seq = .txwCmpl →
    s.timer ≠ none → s.timerIn = none → FourByteFrame raw s.cfg.cmd.completionRead b → b ≠ 0 →
    PollReads s.cfg poll s.cfg.code.eNone → 1 ≤ k →
    s.script = (List.replicate k
      [doneMove, answerMove .ok, answerMove (.data raw), answerMove .ok,
        answerMove (.data poll)]).flatten ++ rest →
    ∃ t, Sys2Proof.core.run (1 + 5 * k) s = .next t ∧ t.st = .cWait ∧ t.seq = .txwCmpl ∧
      t.status = { s.status with cmpl := b, err := s.cfg.code.eNone } ∧ t.rsp = .quiet
end

