-- ==== Sys2Proof/Laws/Codec.lean ====
section
/-! SUPPORT. Lemmas about the byte buffers and the frame codec: each says once what its function does. -/

namespace Sys2Proof.Machine

open Sys2Proof

/-! ## Byte buffers -/

@[simp] theorem bufTake_length (n : Nat) (b : List Byte) : (bufTake n b).length = n := by
  simp [bufTake]

theorem bufTake_eq_range (n : Nat) (b : List Byte) :
    bufTake n b = (List.range n).map fun j => b.getD j 0 := by
  apply List.ext_getElem (by simp)
  intro j h1 h2
  simp only [bufTake, List.getElem_take, List.getElem_map, List.getElem_range]
  rw [List.getElem_append]
  split
  · next h => simp [List.getD_eq_getElem?_getD, h]
  · next h => simp [List.getD_eq_getElem?_getD, List.getElem?_eq_none (Nat.le_of_not_lt h)]

theorem bufTake_port (n : Nat) (s : State) : bufTake n s.req.bytes = portBytes n s :=
  bufTake_eq_range n s.req.bytes

@[simp] theorem portBytes_length (n : Nat) (s : State) : (portBytes n s).length = n := by
  simp [portBytes]

/-- Reading back the bytes just written gives them. -/
theorem bufTake_bufWrite (b bs : List Byte) : bufTake bs.length (bufWrite b bs) = bs := by
  simp [bufTake, bufWrite]

/-- Writing no more bytes than the buffer holds keeps its length. -/
theorem bufWrite_length (b bs : List Byte) (h : bs.length ≤ b.length) :
    (bufWrite b bs).length = b.length := by
  simp [bufWrite]; omega

/-- R140: what the latch holds after the request is latched. -/
theorem latchRequest_eq (op : BitVec 4) (cmd n : Byte) (s : State) :
    latchRequest op cmd n s = { s with latch := latched op cmd n s } := by
  simp [latchRequest, latched, bufTake_port, bufWrite]

/-- R90: the operand bytes of a request just latched are the first N bytes of the port. -/
theorem operands_latchRequest (op : BitVec 4) (cmd n : Byte) (s : State) :
    (latchRequest op cmd n s).operands = portBytes n.toNat s := by
  have h := bufTake_bufWrite s.latch.bytes (bufTake n.toNat s.req.bytes)
  simpa [State.operands, latchRequest, bufTake_port] using h

/-! ## The checksum (R110) -/

@[simp] theorem byteSum_nil : byteSum [] = 0 := rfl

@[simp] theorem byteSum_cons (b : Byte) (s : List Byte) : byteSum (b :: s) = b.toNat + byteSum s := by
  simp [byteSum]

@[simp] theorem byteSum_append (s t : List Byte) : byteSum (s ++ t) = byteSum s + byteSum t := by
  simp [byteSum]

/-- The first line of R110 as a number. -/
theorem checksum_toNat (s : List Byte) : (checksum s).toNat = 255 - byteSum s % 256 := by
  simp [checksum, BitVec.toNat_not]

/-- The two lines of R110 agree. -/
theorem checksum_eq_complementOfSum (s : List Byte) : checksum s = complementOfSum s := by
  apply BitVec.eq_of_toNat_eq
  rw [checksum_toNat]
  simp only [complementOfSum, byteSum, BitVec.toNat_ofNat]
  omega

/-! ## Frames -/

theorem encodeFrame_eq_wireFrame (c : Config) (cmd : Byte) (p : List Byte) :
    encodeFrame c cmd p = wireFrame c cmd p := by
  have h : BitVec.ofNat 8 (p.length + c.lenBias) = BitVec.ofNat 8 ((p.length + c.lenBias) % 256) := by
    apply BitVec.eq_of_toNat_eq; simp
  simp [encodeFrame, frameHead, wireFrame, checksum_eq_complementOfSum, ← h]

@[simp] theorem encodeFrame_length (c : Config) (cmd : Byte) (p : List Byte) :
    (encodeFrame c cmd p).length = p.length + 3 := by
  simp [encodeFrame, frameHead]

/-- EFRAME[0..EFRAME_N-1] of a frame just built is the whole frame (R143). -/
@[simp] theorem take_encodeFrame (c : Config) (cmd : Byte) (p : List Byte) :
    (encodeFrame c cmd p).take (p.length + 3) = encodeFrame c cmd p :=
  List.take_of_length_le (by simp)

/-! ## The decoder (R117, R118) -/

/-- A frame is accepted exactly when it is long enough, its checksum holds and its id is the expected
one; the payload is bytes 2 to n-2. -/
theorem decodeFrame_good (c : Config) (raw : List Byte) (e : Byte) (pl : List Byte) :
    decodeFrame c raw e = .good pl ↔
      decodeMin c e ≤ raw.length ∧ raw.getLast? = some (checksum raw.dropLast) ∧
        raw[1]? = some e ∧ pl = (raw.drop 2).dropLast := by
  unfold decodeFrame
  split
  · next h => simp; omega
  · split
    · next h => simp [h]
    · split
      · next h => simp [h]
      · next h1 h2 h3 =>
        simp only [ne_eq, Decidable.not_not] at h2 h3
        simp [h2, h3]
        constructor
        · intro h; exact ⟨by omega, h.symm⟩
        · intro h; exact h.2.symm

/-- A failed decode has one of the three local codes (R118). -/
theorem decodeFrame_failed (c : Config) (raw : List Byte) (e b : Byte)
    (h : decodeFrame c raw e = .failed b) :
    b = c.code.eReadError ∨ b = c.code.eRxChecksum ∨ b = c.code.eRxCommand := by
  unfold decodeFrame at h
  split at h
  · cases h; exact .inl rfl
  · split at h
    · cases h; exact .inr (.inl rfl)
    · split at h
      · cases h; exact .inr (.inr rfl)
      · cases h

theorem decodeInto_of_failed {raw : List Byte} {e b : Byte} {s : State}
    (h : decodeFrame s.cfg raw e = .failed b) : decodeInto raw e s = s := by
  simp [decodeInto, h]

theorem decodeInto_of_good {raw : List Byte} {e : Byte} {pl : List Byte} {s : State}
    (h : decodeFrame s.cfg raw e = .good pl) :
    decodeInto raw e s = { s with status := writebackStatus s.cfg raw e s.status } := by
  simp [decodeInto, h]

/-- R149: what ERR holds after the poll's decode. -/
theorem decodeInto_err (raw : List Byte) (s : State) :
    (decodeInto raw s.cfg.cmd.errorRead s).status.err = errAfter s raw := by
  unfold decodeInto errAfter
  split <;> simp_all [writebackStatus]

/-! ## A legal configuration (R7) -/

/-- The checks that `legal` joins, one by one. -/
theorem Config.legal_checks {c : Config} (h : c.legal = true) :
    c.capacityLegal = true ∧ c.lengthLegal = true ∧ c.maskLegal = true ∧ c.idsLegal = true ∧
      c.codesLegal = true ∧ c.startKeyLegal = true ∧ c.rxLenLegal = true := by
  simpa only [Config.legal, Bool.and_eq_true, and_assoc] using h

/-- The constraints on the codes, one by one. -/
theorem Config.codes_distinct {c : Config} (h : c.legal = true) :
    c.code.eNone ≠ c.code.eStartKey ∧ c.code.eNone ≠ c.code.eCliff ∧
    c.code.eStartKey ≠ c.code.eCliff ∧
    ∀ b, (b = c.code.eReadError ∨ b = c.code.eRxChecksum ∨ b = c.code.eRxCommand) →
      b ≠ c.code.eNone ∧ b ≠ c.code.eStartKey ∧ b ≠ c.code.eCliff := by
  have h := (Config.legal_checks h).2.2.2.2.1
  simp only [Config.codesLegal, allDistinct, Bool.and_eq_true] at h
  obtain ⟨h1, h2⟩ := h
  simp at h1 h2
  obtain ⟨⟨a1, a2⟩, a3⟩ := h1
  refine ⟨a1, a2, a3, ?_⟩
  rintro b (rfl | rfl | rfl)
  · exact h2.1
  · exact h2.2.1
  · exact h2.2.2

/-- The constraints on the buffer sizes. -/
theorem Config.sizes {c : Config} (h : c.legal = true) :
    5 ≤ c.maxOperand ∧ c.maxOperand ≤ 253 ∧ c.maxOperand + c.lenBias ≤ 255 ∧
      c.startKeyParams.length ≤ c.maxOperand := by
  have h := Config.legal_checks h
  simp [Config.capacityLegal, Config.lengthLegal, Config.startKeyLegal] at h
  omega

/-- Two places of a list without repeats hold different values. -/
theorem allDistinct_ne {l : List Byte} (h : allDistinct l = true) :
    ∀ i j (hi : i < l.length) (hj : j < l.length), i < j → l[i] ≠ l[j] := by
  induction l with
  | nil => intro i j hi; simp at hi
  | cons b bs ih =>
    simp only [allDistinct, Bool.and_eq_true, Bool.not_eq_true', List.contains_eq_mem,
      decide_eq_false_iff_not] at h
    intro i j hi hj hij
    cases j with
    | zero => omega
    | succ j =>
      cases i with
      | zero =>
        intro hc
        exact h.1 (by simp at hc; exact hc ▸ List.getElem_mem _)
      | succ i => simpa using ih h.2 i j (by simpa using hi) (by simpa using hj) (by omega)

/-- The ids the block's decoder knows are pairwise distinct. -/
theorem Config.ids_distinct {c : Config} (h : c.legal = true) :
    c.cmd.errorRead ≠ c.cmd.completionRead ∧ c.cmd.lineSensor ≠ c.cmd.errorRead ∧
    c.cmd.frontDistance ≠ c.cmd.errorRead ∧ c.cmd.errorRead ≠ c.cmd.version ∧
    c.cmd.errorRead ≠ c.cmd.commsReset ∧ c.cmd.lineSensor ≠ c.cmd.completionRead ∧
    c.cmd.frontDistance ≠ c.cmd.completionRead ∧ c.cmd.completionRead ≠ c.cmd.version ∧
    c.cmd.completionRead ≠ c.cmd.commsReset ∧ c.cmd.lineSensor ≠ c.cmd.frontDistance ∧
    c.cmd.lineSensor ≠ c.cmd.version ∧ c.cmd.lineSensor ≠ c.cmd.commsReset ∧
    c.cmd.frontDistance ≠ c.cmd.version ∧ c.cmd.frontDistance ≠ c.cmd.commsReset ∧
    c.cmd.commsReset ≠ c.cmd.version := by
  have hd : allDistinct c.cmd.all = true := (Config.legal_checks h).2.2.2.1
  have g := allDistinct_ne hd
  have hl : c.cmd.all.length = 17 := rfl
  have k (i j : Nat) (hi : i < 17) (hj : j < 17) (hij : i < j) :
      c.cmd.all[i]'(hl ▸ hi) ≠ c.cmd.all[j]'(hl ▸ hj) := g i j _ _ hij
  exact ⟨k 12 13 (by decide) (by decide) (by decide), k 9 12 (by decide) (by decide) (by decide),
    k 10 12 (by decide) (by decide) (by decide), k 12 15 (by decide) (by decide) (by decide),
    k 12 14 (by decide) (by decide) (by decide), k 9 13 (by decide) (by decide) (by decide),
    k 10 13 (by decide) (by decide) (by decide), k 13 15 (by decide) (by decide) (by decide),
    k 13 14 (by decide) (by decide) (by decide), k 9 10 (by decide) (by decide) (by decide),
    k 9 15 (by decide) (by decide) (by decide), k 9 14 (by decide) (by decide) (by decide),
    k 10 15 (by decide) (by decide) (by decide), k 10 14 (by decide) (by decide) (by decide),
    k 14 15 (by decide) (by decide) (by decide)⟩

/-- RX_LEN under a legal configuration is what R83 fixes. -/
theorem rxLen_of_legal {c : Config} (h : c.legal = true) (e : Byte) :
    rxLen c e = if e = c.cmd.frontDistance then 5 else 4 := by
  have h := (Config.legal_checks h).2.2.2.2.2.2
  simp [Config.rxLenLegal] at h
  simp [rxLen, h]

/-- The error poll reads 4 bytes (R148). -/
theorem rxLen_errorRead {c : Config} (h : c.legal = true) : rxLen c c.cmd.errorRead = 4 := by
  simp [rxLen_of_legal h, (Config.ids_distinct h).2.2.1.symm]

/-! ## The little-endian splitter (R115) -/

/-- What the loop emits, if its rounds cover the value: its bytes are its value, none is a leading zero, and
there are no more than the rounds or the value's bytes. -/
theorem leBytes_spec (k v : Nat) (h : v < 256 ^ k) :
    (leBytes k v).foldr (fun x acc => x.toNat + 256 * acc) 0 = v ∧
      (leBytes k v).getLast? ≠ some 0 ∧ (leBytes k v).length ≤ k ∧
      ∀ j, v < 256 ^ j → (leBytes k v).length ≤ j := by
  induction k generalizing v with
  | zero => simp at h; simp [leBytes, h]
  | succ k ih =>
    unfold leBytes
    split
    · next hv => simp [hv]
    · next hv =>
      have hlt : v / 256 < 256 ^ k := by rw [Nat.pow_succ] at h; omega
      obtain ⟨h1, h2, h3, h4⟩ := ih (v / 256) hlt
      refine ⟨?_, ?_, by simpa using h3, fun j hj => ?_⟩
      · rw [List.foldr_cons, h1]; simp; omega
      · intro hl
        rw [List.getLast?_cons] at hl
        cases hb : (leBytes k (v / 256)).getLast? with
        | some b => rw [hb] at hl h2; exact h2 (by simpa using hl)
        | none =>
          rw [List.getLast?_eq_none_iff] at hb
          rw [hb] at h1 hl
          simp at h1 hl
          have := congrArg BitVec.toNat hl
          simp at this
          omega
      · cases j with
        | zero => simp at hj; omega
        | succ j =>
          have := h4 j (by rw [Nat.pow_succ] at hj; omega)
          simpa using this

/-- R115 and R116: the bytes of LEENC. -/
theorem splitLE_spec (c : Config) (v : Word) :
    (splitLE c v).foldr (fun x acc => x.toNat + 256 * acc) 0 = v.toNat % 2 ^ c.leWidth ∧
      (splitLE c v).getLast? ≠ some 0 ∧ (splitLE c v).length ≤ (c.leWidth + 7) / 8 ∧
      (splitLE c v).length ≤ 4 := by
  have h : v.toNat % 2 ^ c.leWidth < 256 ^ ((c.leWidth + 7) / 8) := by
    have h1 : v.toNat % 2 ^ c.leWidth < 2 ^ c.leWidth := Nat.mod_lt _ (by positivity)
    have h2 : 2 ^ c.leWidth ≤ 2 ^ (8 * ((c.leWidth + 7) / 8)) :=
      Nat.pow_le_pow_right (by omega) (by omega)
    rw [Nat.pow_mul] at h2
    exact Nat.lt_of_lt_of_le h1 h2
  obtain ⟨h1, h2, h3, h4⟩ := leBytes_spec _ _ h
  refine ⟨h1, h2, h3, h4 4 ?_⟩
  exact Nat.lt_of_le_of_lt (Nat.mod_le _ _) v.isLt

end Sys2Proof.Machine
end

