-- ==== Sys2Proof/Laws/State.lean ====
section
/-! SUPPORT. One lemma for each field of `State` under each of the shared updates, true by rfl. -/

namespace Sys2Proof.Machine

open Sys2Proof

/-! ### openStep -/

@[simp] theorem openStep_cfg (s : State) : (openStep s).cfg = s.cfg := rfl
@[simp] theorem openStep_status (s : State) : (openStep s).status = s.status := rfl
@[simp] theorem openStep_st (s : State) : (openStep s).st = s.st := rfl
@[simp] theorem openStep_attempts (s : State) : (openStep s).attempts = s.attempts := rfl
@[simp] theorem openStep_seq (s : State) : (openStep s).seq = s.seq := rfl
@[simp] theorem openStep_latch (s : State) : (openStep s).latch = s.latch := rfl
@[simp] theorem openStep_run (s : State) : (openStep s).run = s.run := rfl
@[simp] theorem openStep_pfail (s : State) : (openStep s).pfail = s.pfail := rfl
@[simp] theorem openStep_outcome (s : State) : (openStep s).outcome = s.outcome := rfl
@[simp] theorem openStep_abandonedAny (s : State) : (openStep s).abandonedAny = s.abandonedAny := rfl
@[simp] theorem openStep_init (s : State) : (openStep s).init = s.init := rfl
@[simp] theorem openStep_lastResult (s : State) : (openStep s).lastResult = s.lastResult := rfl
@[simp] theorem openStep_rst (s : State) : (openStep s).rst = false := rfl
@[simp] theorem openStep_req (s : State) : (openStep s).req = s.req := rfl
@[simp] theorem openStep_rsp (s : State) : (openStep s).rsp = .quiet := rfl
@[simp] theorem openStep_bus (s : State) : (openStep s).bus = s.bus := rfl
@[simp] theorem openStep_busIn (s : State) : (openStep s).busIn = none := rfl
@[simp] theorem openStep_timer (s : State) : (openStep s).timer = s.timer := rfl
@[simp] theorem openStep_timerIn (s : State) : (openStep s).timerIn = none := rfl
@[simp] theorem openStep_hostResetReq (s : State) : (openStep s).hostResetReq = s.hostResetReq := rfl
@[simp] theorem openStep_hostResets (s : State) : (openStep s).hostResets = s.hostResets := rfl
@[simp] theorem openStep_script (s : State) : (openStep s).script = s.script := rfl
@[simp] theorem openStep_freeCount (s : State) : (openStep s).freeCount = s.freeCount := rfl

/-! ### busTaken -/

@[simp] theorem busTaken_cfg (s : State) : (busTaken s).cfg = s.cfg := rfl
@[simp] theorem busTaken_status (s : State) : (busTaken s).status = s.status := rfl
@[simp] theorem busTaken_st (s : State) : (busTaken s).st = s.st := rfl
@[simp] theorem busTaken_attempts (s : State) : (busTaken s).attempts = s.attempts := rfl
@[simp] theorem busTaken_seq (s : State) : (busTaken s).seq = s.seq := rfl
@[simp] theorem busTaken_latch (s : State) : (busTaken s).latch = s.latch := rfl
@[simp] theorem busTaken_run (s : State) : (busTaken s).run = s.run := rfl
@[simp] theorem busTaken_pfail (s : State) : (busTaken s).pfail = s.pfail := rfl
@[simp] theorem busTaken_outcome (s : State) : (busTaken s).outcome = s.outcome := rfl
@[simp] theorem busTaken_abandonedAny (s : State) : (busTaken s).abandonedAny = s.abandonedAny := rfl
@[simp] theorem busTaken_init (s : State) : (busTaken s).init = s.init := rfl
@[simp] theorem busTaken_lastResult (s : State) : (busTaken s).lastResult = s.lastResult := rfl
@[simp] theorem busTaken_rst (s : State) : (busTaken s).rst = false := rfl
@[simp] theorem busTaken_req (s : State) : (busTaken s).req = s.req := rfl
@[simp] theorem busTaken_rsp (s : State) : (busTaken s).rsp = .quiet := rfl
@[simp] theorem busTaken_bus (s : State) : (busTaken s).bus = none := rfl
@[simp] theorem busTaken_busIn (s : State) : (busTaken s).busIn = none := rfl
@[simp] theorem busTaken_timer (s : State) : (busTaken s).timer = s.timer := rfl
@[simp] theorem busTaken_timerIn (s : State) : (busTaken s).timerIn = none := rfl
@[simp] theorem busTaken_hostResetReq (s : State) : (busTaken s).hostResetReq = s.hostResetReq := rfl
@[simp] theorem busTaken_hostResets (s : State) : (busTaken s).hostResets = s.hostResets := rfl
@[simp] theorem busTaken_script (s : State) : (busTaken s).script = s.script := rfl
@[simp] theorem busTaken_freeCount (s : State) : (busTaken s).freeCount = s.freeCount := rfl

/-! ### delayTaken -/

@[simp] theorem delayTaken_cfg (s : State) : (delayTaken s).cfg = s.cfg := rfl
@[simp] theorem delayTaken_status (s : State) : (delayTaken s).status = s.status := rfl
@[simp] theorem delayTaken_st (s : State) : (delayTaken s).st = s.st := rfl
@[simp] theorem delayTaken_attempts (s : State) : (delayTaken s).attempts = s.attempts := rfl
@[simp] theorem delayTaken_seq (s : State) : (delayTaken s).seq = s.seq := rfl
@[simp] theorem delayTaken_latch (s : State) : (delayTaken s).latch = s.latch := rfl
@[simp] theorem delayTaken_run (s : State) : (delayTaken s).run = s.run := rfl
@[simp] theorem delayTaken_pfail (s : State) : (delayTaken s).pfail = s.pfail := rfl
@[simp] theorem delayTaken_outcome (s : State) : (delayTaken s).outcome = s.outcome := rfl
@[simp] theorem delayTaken_abandonedAny (s : State) : (delayTaken s).abandonedAny = s.abandonedAny := rfl
@[simp] theorem delayTaken_init (s : State) : (delayTaken s).init = s.init := rfl
@[simp] theorem delayTaken_lastResult (s : State) : (delayTaken s).lastResult = s.lastResult := rfl
@[simp] theorem delayTaken_rst (s : State) : (delayTaken s).rst = false := rfl
@[simp] theorem delayTaken_req (s : State) : (delayTaken s).req = s.req := rfl
@[simp] theorem delayTaken_rsp (s : State) : (delayTaken s).rsp = .quiet := rfl
@[simp] theorem delayTaken_bus (s : State) : (delayTaken s).bus = s.bus := rfl
@[simp] theorem delayTaken_busIn (s : State) : (delayTaken s).busIn = none := rfl
@[simp] theorem delayTaken_timer (s : State) : (delayTaken s).timer = none := rfl
@[simp] theorem delayTaken_timerIn (s : State) : (delayTaken s).timerIn = none := rfl
@[simp] theorem delayTaken_hostResetReq (s : State) : (delayTaken s).hostResetReq = s.hostResetReq := rfl
@[simp] theorem delayTaken_hostResets (s : State) : (delayTaken s).hostResets = s.hostResets := rfl
@[simp] theorem delayTaken_script (s : State) : (delayTaken s).script = s.script := rfl
@[simp] theorem delayTaken_freeCount (s : State) : (delayTaken s).freeCount = s.freeCount := rfl

/-! ### takeRequest -/

@[simp] theorem takeRequest_cfg (s : State) : (takeRequest s).cfg = s.cfg := rfl
@[simp] theorem takeRequest_status (s : State) : (takeRequest s).status = s.status := rfl
@[simp] theorem takeRequest_st (s : State) : (takeRequest s).st = s.st := rfl
@[simp] theorem takeRequest_attempts (s : State) : (takeRequest s).attempts = s.attempts := rfl
@[simp] theorem takeRequest_seq (s : State) : (takeRequest s).seq = s.seq := rfl
@[simp] theorem takeRequest_latch (s : State) : (takeRequest s).latch = s.latch := rfl
@[simp] theorem takeRequest_run (s : State) : (takeRequest s).run = s.run := rfl
@[simp] theorem takeRequest_pfail (s : State) : (takeRequest s).pfail = s.pfail := rfl
@[simp] theorem takeRequest_outcome (s : State) : (takeRequest s).outcome = s.outcome := rfl
@[simp] theorem takeRequest_abandonedAny (s : State) : (takeRequest s).abandonedAny = s.abandonedAny := rfl
@[simp] theorem takeRequest_init (s : State) : (takeRequest s).init = s.init := rfl
@[simp] theorem takeRequest_lastResult (s : State) : (takeRequest s).lastResult = s.lastResult := rfl
@[simp] theorem takeRequest_rst (s : State) : (takeRequest s).rst = false := rfl
@[simp] theorem takeRequest_req (s : State) : (takeRequest s).req = { s.req with valid := false } := rfl
@[simp] theorem takeRequest_rsp (s : State) : (takeRequest s).rsp = .quiet := rfl
@[simp] theorem takeRequest_bus (s : State) : (takeRequest s).bus = s.bus := rfl
@[simp] theorem takeRequest_busIn (s : State) : (takeRequest s).busIn = none := rfl
@[simp] theorem takeRequest_timer (s : State) : (takeRequest s).timer = s.timer := rfl
@[simp] theorem takeRequest_timerIn (s : State) : (takeRequest s).timerIn = none := rfl
@[simp] theorem takeRequest_hostResetReq (s : State) : (takeRequest s).hostResetReq = s.hostResetReq := rfl
@[simp] theorem takeRequest_hostResets (s : State) : (takeRequest s).hostResets = s.hostResets := rfl
@[simp] theorem takeRequest_script (s : State) : (takeRequest s).script = s.script := rfl
@[simp] theorem takeRequest_freeCount (s : State) : (takeRequest s).freeCount = s.freeCount := rfl

/-! ### applyMove -/

@[simp] theorem applyMove_cfg (m : EnvMove) (s : State) : (applyMove m s).cfg = s.cfg := rfl
@[simp] theorem applyMove_status (m : EnvMove) (s : State) : (applyMove m s).status = s.status := rfl
@[simp] theorem applyMove_st (m : EnvMove) (s : State) : (applyMove m s).st = s.st := rfl
@[simp] theorem applyMove_attempts (m : EnvMove) (s : State) : (applyMove m s).attempts = s.attempts := rfl
@[simp] theorem applyMove_seq (m : EnvMove) (s : State) : (applyMove m s).seq = s.seq := rfl
@[simp] theorem applyMove_latch (m : EnvMove) (s : State) : (applyMove m s).latch = s.latch := rfl
@[simp] theorem applyMove_run (m : EnvMove) (s : State) : (applyMove m s).run = s.run := rfl
@[simp] theorem applyMove_pfail (m : EnvMove) (s : State) : (applyMove m s).pfail = s.pfail := rfl
@[simp] theorem applyMove_outcome (m : EnvMove) (s : State) : (applyMove m s).outcome = s.outcome := rfl
@[simp] theorem applyMove_abandonedAny (m : EnvMove) (s : State) :
    (applyMove m s).abandonedAny = s.abandonedAny := rfl
@[simp] theorem applyMove_init (m : EnvMove) (s : State) : (applyMove m s).init = s.init := rfl
@[simp] theorem applyMove_lastResult (m : EnvMove) (s : State) :
    (applyMove m s).lastResult = s.lastResult := rfl
@[simp] theorem applyMove_rst (m : EnvMove) (s : State) : (applyMove m s).rst = m.rst := rfl
@[simp] theorem applyMove_req (m : EnvMove) (s : State) :
    (applyMove m s).req = moveRequest m.request s.req := rfl
@[simp] theorem applyMove_rsp (m : EnvMove) (s : State) : (applyMove m s).rsp = s.rsp := rfl
@[simp] theorem applyMove_bus (m : EnvMove) (s : State) : (applyMove m s).bus = s.bus := rfl
@[simp] theorem applyMove_busIn (m : EnvMove) (s : State) : (applyMove m s).busIn = m.busIn := rfl
@[simp] theorem applyMove_timer (m : EnvMove) (s : State) : (applyMove m s).timer = s.timer := rfl
@[simp] theorem applyMove_timerIn (m : EnvMove) (s : State) : (applyMove m s).timerIn = m.timerIn := rfl
@[simp] theorem applyMove_hostResetReq (m : EnvMove) (s : State) :
    (applyMove m s).hostResetReq = s.hostResetReq := rfl
@[simp] theorem applyMove_hostResets (m : EnvMove) (s : State) :
    (applyMove m s).hostResets = s.hostResets := rfl
@[simp] theorem applyMove_script (m : EnvMove) (s : State) : (applyMove m s).script = s.script := rfl
@[simp] theorem applyMove_freeCount (m : EnvMove) (s : State) : (applyMove m s).freeCount = s.freeCount := rfl

/-! ### blockReset -/

@[simp] theorem blockReset_cfg (s : State) : (blockReset s).cfg = s.cfg := rfl
@[simp] theorem blockReset_status (s : State) : (blockReset s).status = (State.resetWith s.cfg).status := rfl
@[simp] theorem blockReset_st (s : State) : (blockReset s).st = (State.resetWith s.cfg).st := rfl
@[simp] theorem blockReset_attempts (s : State) :
    (blockReset s).attempts = (State.resetWith s.cfg).attempts := rfl
@[simp] theorem blockReset_seq (s : State) : (blockReset s).seq = (State.resetWith s.cfg).seq := rfl
@[simp] theorem blockReset_latch (s : State) : (blockReset s).latch = (State.resetWith s.cfg).latch := rfl
@[simp] theorem blockReset_run (s : State) : (blockReset s).run = (State.resetWith s.cfg).run := rfl
@[simp] theorem blockReset_pfail (s : State) : (blockReset s).pfail = (State.resetWith s.cfg).pfail := rfl
@[simp] theorem blockReset_outcome (s : State) :
    (blockReset s).outcome = (State.resetWith s.cfg).outcome := rfl
@[simp] theorem blockReset_abandonedAny (s : State) :
    (blockReset s).abandonedAny = (State.resetWith s.cfg).abandonedAny := rfl
@[simp] theorem blockReset_init (s : State) : (blockReset s).init = (State.resetWith s.cfg).init := rfl
@[simp] theorem blockReset_lastResult (s : State) :
    (blockReset s).lastResult = (State.resetWith s.cfg).lastResult := rfl
@[simp] theorem blockReset_rst (s : State) : (blockReset s).rst = (State.resetWith s.cfg).rst := rfl
@[simp] theorem blockReset_req (s : State) : (blockReset s).req = s.req := rfl
@[simp] theorem blockReset_rsp (s : State) : (blockReset s).rsp = (State.resetWith s.cfg).rsp := rfl
@[simp] theorem blockReset_bus (s : State) : (blockReset s).bus = (State.resetWith s.cfg).bus := rfl
@[simp] theorem blockReset_busIn (s : State) : (blockReset s).busIn = (State.resetWith s.cfg).busIn := rfl
@[simp] theorem blockReset_timer (s : State) : (blockReset s).timer = (State.resetWith s.cfg).timer := rfl
@[simp] theorem blockReset_timerIn (s : State) :
    (blockReset s).timerIn = (State.resetWith s.cfg).timerIn := rfl
@[simp] theorem blockReset_hostResetReq (s : State) :
    (blockReset s).hostResetReq = (State.resetWith s.cfg).hostResetReq := rfl
@[simp] theorem blockReset_hostResets (s : State) :
    (blockReset s).hostResets = (State.resetWith s.cfg).hostResets := rfl
@[simp] theorem blockReset_script (s : State) : (blockReset s).script = s.script := rfl
@[simp] theorem blockReset_freeCount (s : State) : (blockReset s).freeCount = s.freeCount := rfl

/-! ### latchRequest -/

@[simp] theorem latchRequest_cfg (op : BitVec 4) (cmd n : Byte) (s : State) :
    (latchRequest op cmd n s).cfg = s.cfg := rfl
@[simp] theorem latchRequest_status (op : BitVec 4) (cmd n : Byte) (s : State) :
    (latchRequest op cmd n s).status = s.status := rfl
@[simp] theorem latchRequest_st (op : BitVec 4) (cmd n : Byte) (s : State) :
    (latchRequest op cmd n s).st = s.st := rfl
@[simp] theorem latchRequest_attempts (op : BitVec 4) (cmd n : Byte) (s : State) :
    (latchRequest op cmd n s).attempts = s.attempts := rfl
@[simp] theorem latchRequest_seq (op : BitVec 4) (cmd n : Byte) (s : State) :
    (latchRequest op cmd n s).seq = s.seq := rfl
@[simp] theorem latchRequest_latch (op : BitVec 4) (cmd n : Byte) (s : State) :
    (latchRequest op cmd n s).latch = { op := op, cmd := cmd, n := n, bytes := bufWrite s.latch.bytes (bufTake n.toNat s.req.bytes), value := s.req.value } := rfl
@[simp] theorem latchRequest_run (op : BitVec 4) (cmd n : Byte) (s : State) :
    (latchRequest op cmd n s).run = s.run := rfl
@[simp] theorem latchRequest_pfail (op : BitVec 4) (cmd n : Byte) (s : State) :
    (latchRequest op cmd n s).pfail = s.pfail := rfl
@[simp] theorem latchRequest_outcome (op : BitVec 4) (cmd n : Byte) (s : State) :
    (latchRequest op cmd n s).outcome = s.outcome := rfl
@[simp] theorem latchRequest_abandonedAny (op : BitVec 4) (cmd n : Byte) (s : State) :
    (latchRequest op cmd n s).abandonedAny = s.abandonedAny := rfl
@[simp] theorem latchRequest_init (op : BitVec 4) (cmd n : Byte) (s : State) :
    (latchRequest op cmd n s).init = s.init := rfl
@[simp] theorem latchRequest_lastResult (op : BitVec 4) (cmd n : Byte) (s : State) :
    (latchRequest op cmd n s).lastResult = s.lastResult := rfl
@[simp] theorem latchRequest_rst (op : BitVec 4) (cmd n : Byte) (s : State) :
    (latchRequest op cmd n s).rst = s.rst := rfl
@[simp] theorem latchRequest_req (op : BitVec 4) (cmd n : Byte) (s : State) :
    (latchRequest op cmd n s).req = s.req := rfl
@[simp] theorem latchRequest_rsp (op : BitVec 4) (cmd n : Byte) (s : State) :
    (latchRequest op cmd n s).rsp = s.rsp := rfl
@[simp] theorem latchRequest_bus (op : BitVec 4) (cmd n : Byte) (s : State) :
    (latchRequest op cmd n s).bus = s.bus := rfl
@[simp] theorem latchRequest_busIn (op : BitVec 4) (cmd n : Byte) (s : State) :
    (latchRequest op cmd n s).busIn = s.busIn := rfl
@[simp] theorem latchRequest_timer (op : BitVec 4) (cmd n : Byte) (s : State) :
    (latchRequest op cmd n s).timer = s.timer := rfl
@[simp] theorem latchRequest_timerIn (op : BitVec 4) (cmd n : Byte) (s : State) :
    (latchRequest op cmd n s).timerIn = s.timerIn := rfl
@[simp] theorem latchRequest_hostResetReq (op : BitVec 4) (cmd n : Byte) (s : State) :
    (latchRequest op cmd n s).hostResetReq = s.hostResetReq := rfl
@[simp] theorem latchRequest_hostResets (op : BitVec 4) (cmd n : Byte) (s : State) :
    (latchRequest op cmd n s).hostResets = s.hostResets := rfl
@[simp] theorem latchRequest_script (op : BitVec 4) (cmd n : Byte) (s : State) :
    (latchRequest op cmd n s).script = s.script := rfl
@[simp] theorem latchRequest_freeCount (op : BitVec 4) (cmd n : Byte) (s : State) :
    (latchRequest op cmd n s).freeCount = s.freeCount := rfl

/-! ### issueWrite -/

@[simp] theorem issueWrite_cfg (b : List Byte) (p : Phase) (s : State) : (issueWrite b p s).cfg = s.cfg := rfl
@[simp] theorem issueWrite_status (b : List Byte) (p : Phase) (s : State) :
    (issueWrite b p s).status = s.status := rfl
@[simp] theorem issueWrite_st (b : List Byte) (p : Phase) (s : State) : (issueWrite b p s).st = p := rfl
@[simp] theorem issueWrite_attempts (b : List Byte) (p : Phase) (s : State) :
    (issueWrite b p s).attempts = s.attempts := rfl
@[simp] theorem issueWrite_seq (b : List Byte) (p : Phase) (s : State) : (issueWrite b p s).seq = s.seq := rfl
@[simp] theorem issueWrite_latch (b : List Byte) (p : Phase) (s : State) :
    (issueWrite b p s).latch = s.latch := rfl
@[simp] theorem issueWrite_run (b : List Byte) (p : Phase) (s : State) : (issueWrite b p s).run = s.run := rfl
@[simp] theorem issueWrite_pfail (b : List Byte) (p : Phase) (s : State) :
    (issueWrite b p s).pfail = s.pfail := rfl
@[simp] theorem issueWrite_outcome (b : List Byte) (p : Phase) (s : State) :
    (issueWrite b p s).outcome = s.outcome := rfl
@[simp] theorem issueWrite_abandonedAny (b : List Byte) (p : Phase) (s : State) :
    (issueWrite b p s).abandonedAny = s.abandonedAny := rfl
@[simp] theorem issueWrite_init (b : List Byte) (p : Phase) (s : State) :
    (issueWrite b p s).init = s.init := rfl
@[simp] theorem issueWrite_lastResult (b : List Byte) (p : Phase) (s : State) :
    (issueWrite b p s).lastResult = s.lastResult := rfl
@[simp] theorem issueWrite_rst (b : List Byte) (p : Phase) (s : State) : (issueWrite b p s).rst = s.rst := rfl
@[simp] theorem issueWrite_req (b : List Byte) (p : Phase) (s : State) : (issueWrite b p s).req = s.req := rfl
@[simp] theorem issueWrite_rsp (b : List Byte) (p : Phase) (s : State) : (issueWrite b p s).rsp = s.rsp := rfl
@[simp] theorem issueWrite_bus (b : List Byte) (p : Phase) (s : State) :
    (issueWrite b p s).bus = some (.write s.cfg.devAddr b) := rfl
@[simp] theorem issueWrite_busIn (b : List Byte) (p : Phase) (s : State) :
    (issueWrite b p s).busIn = s.busIn := rfl
@[simp] theorem issueWrite_timer (b : List Byte) (p : Phase) (s : State) :
    (issueWrite b p s).timer = s.timer := rfl
@[simp] theorem issueWrite_timerIn (b : List Byte) (p : Phase) (s : State) :
    (issueWrite b p s).timerIn = s.timerIn := rfl
@[simp] theorem issueWrite_hostResetReq (b : List Byte) (p : Phase) (s : State) :
    (issueWrite b p s).hostResetReq = s.hostResetReq := rfl
@[simp] theorem issueWrite_hostResets (b : List Byte) (p : Phase) (s : State) :
    (issueWrite b p s).hostResets = s.hostResets := rfl
@[simp] theorem issueWrite_script (b : List Byte) (p : Phase) (s : State) :
    (issueWrite b p s).script = s.script := rfl
@[simp] theorem issueWrite_freeCount (b : List Byte) (p : Phase) (s : State) :
    (issueWrite b p s).freeCount = s.freeCount := rfl

/-! ### issueRead -/

@[simp] theorem issueRead_cfg (n : Nat) (p : Phase) (s : State) : (issueRead n p s).cfg = s.cfg := rfl
@[simp] theorem issueRead_status (n : Nat) (p : Phase) (s : State) :
    (issueRead n p s).status = s.status := rfl
@[simp] theorem issueRead_st (n : Nat) (p : Phase) (s : State) : (issueRead n p s).st = p := rfl
@[simp] theorem issueRead_attempts (n : Nat) (p : Phase) (s : State) :
    (issueRead n p s).attempts = s.attempts := rfl
@[simp] theorem issueRead_seq (n : Nat) (p : Phase) (s : State) : (issueRead n p s).seq = s.seq := rfl
@[simp] theorem issueRead_latch (n : Nat) (p : Phase) (s : State) : (issueRead n p s).latch = s.latch := rfl
@[simp] theorem issueRead_run (n : Nat) (p : Phase) (s : State) : (issueRead n p s).run = s.run := rfl
@[simp] theorem issueRead_pfail (n : Nat) (p : Phase) (s : State) : (issueRead n p s).pfail = s.pfail := rfl
@[simp] theorem issueRead_outcome (n : Nat) (p : Phase) (s : State) :
    (issueRead n p s).outcome = s.outcome := rfl
@[simp] theorem issueRead_abandonedAny (n : Nat) (p : Phase) (s : State) :
    (issueRead n p s).abandonedAny = s.abandonedAny := rfl
@[simp] theorem issueRead_init (n : Nat) (p : Phase) (s : State) : (issueRead n p s).init = s.init := rfl
@[simp] theorem issueRead_lastResult (n : Nat) (p : Phase) (s : State) :
    (issueRead n p s).lastResult = s.lastResult := rfl
@[simp] theorem issueRead_rst (n : Nat) (p : Phase) (s : State) : (issueRead n p s).rst = s.rst := rfl
@[simp] theorem issueRead_req (n : Nat) (p : Phase) (s : State) : (issueRead n p s).req = s.req := rfl
@[simp] theorem issueRead_rsp (n : Nat) (p : Phase) (s : State) : (issueRead n p s).rsp = s.rsp := rfl
@[simp] theorem issueRead_bus (n : Nat) (p : Phase) (s : State) :
    (issueRead n p s).bus = some (.read s.cfg.devAddr n) := rfl
@[simp] theorem issueRead_busIn (n : Nat) (p : Phase) (s : State) : (issueRead n p s).busIn = s.busIn := rfl
@[simp] theorem issueRead_timer (n : Nat) (p : Phase) (s : State) : (issueRead n p s).timer = s.timer := rfl
@[simp] theorem issueRead_timerIn (n : Nat) (p : Phase) (s : State) :
    (issueRead n p s).timerIn = s.timerIn := rfl
@[simp] theorem issueRead_hostResetReq (n : Nat) (p : Phase) (s : State) :
    (issueRead n p s).hostResetReq = s.hostResetReq := rfl
@[simp] theorem issueRead_hostResets (n : Nat) (p : Phase) (s : State) :
    (issueRead n p s).hostResets = s.hostResets := rfl
@[simp] theorem issueRead_script (n : Nat) (p : Phase) (s : State) :
    (issueRead n p s).script = s.script := rfl
@[simp] theorem issueRead_freeCount (n : Nat) (p : Phase) (s : State) :
    (issueRead n p s).freeCount = s.freeCount := rfl

/-! ### issueScan -/

@[simp] theorem issueScan_cfg (p : Phase) (s : State) : (issueScan p s).cfg = s.cfg := rfl
@[simp] theorem issueScan_status (p : Phase) (s : State) : (issueScan p s).status = s.status := rfl
@[simp] theorem issueScan_st (p : Phase) (s : State) : (issueScan p s).st = p := rfl
@[simp] theorem issueScan_attempts (p : Phase) (s : State) : (issueScan p s).attempts = s.attempts := rfl
@[simp] theorem issueScan_seq (p : Phase) (s : State) : (issueScan p s).seq = s.seq := rfl
@[simp] theorem issueScan_latch (p : Phase) (s : State) : (issueScan p s).latch = s.latch := rfl
@[simp] theorem issueScan_run (p : Phase) (s : State) : (issueScan p s).run = s.run := rfl
@[simp] theorem issueScan_pfail (p : Phase) (s : State) : (issueScan p s).pfail = s.pfail := rfl
@[simp] theorem issueScan_outcome (p : Phase) (s : State) : (issueScan p s).outcome = s.outcome := rfl
@[simp] theorem issueScan_abandonedAny (p : Phase) (s : State) :
    (issueScan p s).abandonedAny = s.abandonedAny := rfl
@[simp] theorem issueScan_init (p : Phase) (s : State) : (issueScan p s).init = s.init := rfl
@[simp] theorem issueScan_lastResult (p : Phase) (s : State) :
    (issueScan p s).lastResult = s.lastResult := rfl
@[simp] theorem issueScan_rst (p : Phase) (s : State) : (issueScan p s).rst = s.rst := rfl
@[simp] theorem issueScan_req (p : Phase) (s : State) : (issueScan p s).req = s.req := rfl
@[simp] theorem issueScan_rsp (p : Phase) (s : State) : (issueScan p s).rsp = s.rsp := rfl
@[simp] theorem issueScan_bus (p : Phase) (s : State) : (issueScan p s).bus = some .scan := rfl
@[simp] theorem issueScan_busIn (p : Phase) (s : State) : (issueScan p s).busIn = s.busIn := rfl
@[simp] theorem issueScan_timer (p : Phase) (s : State) : (issueScan p s).timer = s.timer := rfl
@[simp] theorem issueScan_timerIn (p : Phase) (s : State) : (issueScan p s).timerIn = s.timerIn := rfl
@[simp] theorem issueScan_hostResetReq (p : Phase) (s : State) :
    (issueScan p s).hostResetReq = s.hostResetReq := rfl
@[simp] theorem issueScan_hostResets (p : Phase) (s : State) :
    (issueScan p s).hostResets = s.hostResets := rfl
@[simp] theorem issueScan_script (p : Phase) (s : State) : (issueScan p s).script = s.script := rfl
@[simp] theorem issueScan_freeCount (p : Phase) (s : State) : (issueScan p s).freeCount = s.freeCount := rfl

/-! ### issueDelay -/

@[simp] theorem issueDelay_cfg (ms : Half) (p : Phase) (s : State) : (issueDelay ms p s).cfg = s.cfg := rfl
@[simp] theorem issueDelay_status (ms : Half) (p : Phase) (s : State) :
    (issueDelay ms p s).status = s.status := rfl
@[simp] theorem issueDelay_st (ms : Half) (p : Phase) (s : State) : (issueDelay ms p s).st = p := rfl
@[simp] theorem issueDelay_attempts (ms : Half) (p : Phase) (s : State) :
    (issueDelay ms p s).attempts = s.attempts := rfl
@[simp] theorem issueDelay_seq (ms : Half) (p : Phase) (s : State) : (issueDelay ms p s).seq = s.seq := rfl
@[simp] theorem issueDelay_latch (ms : Half) (p : Phase) (s : State) :
    (issueDelay ms p s).latch = s.latch := rfl
@[simp] theorem issueDelay_run (ms : Half) (p : Phase) (s : State) : (issueDelay ms p s).run = s.run := rfl
@[simp] theorem issueDelay_pfail (ms : Half) (p : Phase) (s : State) :
    (issueDelay ms p s).pfail = s.pfail := rfl
@[simp] theorem issueDelay_outcome (ms : Half) (p : Phase) (s : State) :
    (issueDelay ms p s).outcome = s.outcome := rfl
@[simp] theorem issueDelay_abandonedAny (ms : Half) (p : Phase) (s : State) :
    (issueDelay ms p s).abandonedAny = s.abandonedAny := rfl
@[simp] theorem issueDelay_init (ms : Half) (p : Phase) (s : State) : (issueDelay ms p s).init = s.init := rfl
@[simp] theorem issueDelay_lastResult (ms : Half) (p : Phase) (s : State) :
    (issueDelay ms p s).lastResult = s.lastResult := rfl
@[simp] theorem issueDelay_rst (ms : Half) (p : Phase) (s : State) : (issueDelay ms p s).rst = s.rst := rfl
@[simp] theorem issueDelay_req (ms : Half) (p : Phase) (s : State) : (issueDelay ms p s).req = s.req := rfl
@[simp] theorem issueDelay_rsp (ms : Half) (p : Phase) (s : State) : (issueDelay ms p s).rsp = s.rsp := rfl
@[simp] theorem issueDelay_bus (ms : Half) (p : Phase) (s : State) : (issueDelay ms p s).bus = s.bus := rfl
@[simp] theorem issueDelay_busIn (ms : Half) (p : Phase) (s : State) :
    (issueDelay ms p s).busIn = s.busIn := rfl
@[simp] theorem issueDelay_timer (ms : Half) (p : Phase) (s : State) :
    (issueDelay ms p s).timer = some ms := rfl
@[simp] theorem issueDelay_timerIn (ms : Half) (p : Phase) (s : State) :
    (issueDelay ms p s).timerIn = s.timerIn := rfl
@[simp] theorem issueDelay_hostResetReq (ms : Half) (p : Phase) (s : State) :
    (issueDelay ms p s).hostResetReq = s.hostResetReq := rfl
@[simp] theorem issueDelay_hostResets (ms : Half) (p : Phase) (s : State) :
    (issueDelay ms p s).hostResets = s.hostResets := rfl
@[simp] theorem issueDelay_script (ms : Half) (p : Phase) (s : State) :
    (issueDelay ms p s).script = s.script := rfl
@[simp] theorem issueDelay_freeCount (ms : Half) (p : Phase) (s : State) :
    (issueDelay ms p s).freeCount = s.freeCount := rfl

/-! ### issueHostReset -/

@[simp] theorem issueHostReset_cfg (s : State) : (issueHostReset s).cfg = s.cfg := rfl
@[simp] theorem issueHostReset_status (s : State) : (issueHostReset s).status = s.status := rfl
@[simp] theorem issueHostReset_st (s : State) : (issueHostReset s).st = .restart := rfl
@[simp] theorem issueHostReset_attempts (s : State) : (issueHostReset s).attempts = s.attempts := rfl
@[simp] theorem issueHostReset_seq (s : State) : (issueHostReset s).seq = s.seq := rfl
@[simp] theorem issueHostReset_latch (s : State) : (issueHostReset s).latch = s.latch := rfl
@[simp] theorem issueHostReset_run (s : State) : (issueHostReset s).run = s.run := rfl
@[simp] theorem issueHostReset_pfail (s : State) : (issueHostReset s).pfail = s.pfail := rfl
@[simp] theorem issueHostReset_outcome (s : State) : (issueHostReset s).outcome = s.outcome := rfl
@[simp] theorem issueHostReset_abandonedAny (s : State) :
    (issueHostReset s).abandonedAny = s.abandonedAny := rfl
@[simp] theorem issueHostReset_init (s : State) : (issueHostReset s).init = s.init := rfl
@[simp] theorem issueHostReset_lastResult (s : State) : (issueHostReset s).lastResult = s.lastResult := rfl
@[simp] theorem issueHostReset_rst (s : State) : (issueHostReset s).rst = s.rst := rfl
@[simp] theorem issueHostReset_req (s : State) : (issueHostReset s).req = s.req := rfl
@[simp] theorem issueHostReset_rsp (s : State) : (issueHostReset s).rsp = s.rsp := rfl
@[simp] theorem issueHostReset_bus (s : State) : (issueHostReset s).bus = s.bus := rfl
@[simp] theorem issueHostReset_busIn (s : State) : (issueHostReset s).busIn = s.busIn := rfl
@[simp] theorem issueHostReset_timer (s : State) : (issueHostReset s).timer = s.timer := rfl
@[simp] theorem issueHostReset_timerIn (s : State) : (issueHostReset s).timerIn = s.timerIn := rfl
@[simp] theorem issueHostReset_hostResetReq (s : State) : (issueHostReset s).hostResetReq = true := rfl
@[simp] theorem issueHostReset_hostResets (s : State) :
    (issueHostReset s).hostResets = s.hostResets + 1 := rfl
@[simp] theorem issueHostReset_script (s : State) : (issueHostReset s).script = s.script := rfl
@[simp] theorem issueHostReset_freeCount (s : State) : (issueHostReset s).freeCount = s.freeCount := rfl

/-! ### markAbandoned -/

@[simp] theorem markAbandoned_cfg (r : Result) (s : State) : (markAbandoned r s).cfg = s.cfg := rfl
@[simp] theorem markAbandoned_status (r : Result) (s : State) : (markAbandoned r s).status = s.status := rfl
@[simp] theorem markAbandoned_st (r : Result) (s : State) : (markAbandoned r s).st = s.st := rfl
@[simp] theorem markAbandoned_attempts (r : Result) (s : State) :
    (markAbandoned r s).attempts = s.attempts := rfl
@[simp] theorem markAbandoned_seq (r : Result) (s : State) : (markAbandoned r s).seq = s.seq := rfl
@[simp] theorem markAbandoned_latch (r : Result) (s : State) : (markAbandoned r s).latch = s.latch := rfl
@[simp] theorem markAbandoned_run (r : Result) (s : State) : (markAbandoned r s).run = s.run := rfl
@[simp] theorem markAbandoned_pfail (r : Result) (s : State) : (markAbandoned r s).pfail = s.pfail := rfl
@[simp] theorem markAbandoned_outcome (r : Result) (s : State) :
    (markAbandoned r s).outcome = s.outcome := rfl
@[simp] theorem markAbandoned_abandonedAny (r : Result) (s : State) :
    (markAbandoned r s).abandonedAny = (s.abandonedAny || r == .abandoned) := rfl
@[simp] theorem markAbandoned_init (r : Result) (s : State) : (markAbandoned r s).init = s.init := rfl
@[simp] theorem markAbandoned_lastResult (r : Result) (s : State) :
    (markAbandoned r s).lastResult = s.lastResult := rfl
@[simp] theorem markAbandoned_rst (r : Result) (s : State) : (markAbandoned r s).rst = s.rst := rfl
@[simp] theorem markAbandoned_req (r : Result) (s : State) : (markAbandoned r s).req = s.req := rfl
@[simp] theorem markAbandoned_rsp (r : Result) (s : State) : (markAbandoned r s).rsp = s.rsp := rfl
@[simp] theorem markAbandoned_bus (r : Result) (s : State) : (markAbandoned r s).bus = s.bus := rfl
@[simp] theorem markAbandoned_busIn (r : Result) (s : State) : (markAbandoned r s).busIn = s.busIn := rfl
@[simp] theorem markAbandoned_timer (r : Result) (s : State) : (markAbandoned r s).timer = s.timer := rfl
@[simp] theorem markAbandoned_timerIn (r : Result) (s : State) :
    (markAbandoned r s).timerIn = s.timerIn := rfl
@[simp] theorem markAbandoned_hostResetReq (r : Result) (s : State) :
    (markAbandoned r s).hostResetReq = s.hostResetReq := rfl
@[simp] theorem markAbandoned_hostResets (r : Result) (s : State) :
    (markAbandoned r s).hostResets = s.hostResets := rfl
@[simp] theorem markAbandoned_script (r : Result) (s : State) : (markAbandoned r s).script = s.script := rfl
@[simp] theorem markAbandoned_freeCount (r : Result) (s : State) :
    (markAbandoned r s).freeCount = s.freeCount := rfl

/-! ### finish -/

@[simp] theorem finish_cfg (r : Result) (b : List Byte) (v : Word) (s : State) :
    (finish r b v s).cfg = s.cfg := rfl
@[simp] theorem finish_status (r : Result) (b : List Byte) (v : Word) (s : State) :
    (finish r b v s).status = s.status := rfl
@[simp] theorem finish_st (r : Result) (b : List Byte) (v : Word) (s : State) :
    (finish r b v s).st = .idle := rfl
@[simp] theorem finish_attempts (r : Result) (b : List Byte) (v : Word) (s : State) :
    (finish r b v s).attempts = s.attempts := rfl
@[simp] theorem finish_seq (r : Result) (b : List Byte) (v : Word) (s : State) :
    (finish r b v s).seq = .plain := rfl
@[simp] theorem finish_latch (r : Result) (b : List Byte) (v : Word) (s : State) :
    (finish r b v s).latch = s.latch := rfl
@[simp] theorem finish_run (r : Result) (b : List Byte) (v : Word) (s : State) :
    (finish r b v s).run = s.run := rfl
@[simp] theorem finish_pfail (r : Result) (b : List Byte) (v : Word) (s : State) :
    (finish r b v s).pfail = s.pfail := rfl
@[simp] theorem finish_outcome (r : Result) (b : List Byte) (v : Word) (s : State) :
    (finish r b v s).outcome = s.outcome := rfl
@[simp] theorem finish_abandonedAny (r : Result) (b : List Byte) (v : Word) (s : State) :
    (finish r b v s).abandonedAny = s.abandonedAny := rfl
@[simp] theorem finish_init (r : Result) (b : List Byte) (v : Word) (s : State) :
    (finish r b v s).init = s.init := rfl
@[simp] theorem finish_lastResult (r : Result) (b : List Byte) (v : Word) (s : State) :
    (finish r b v s).lastResult = r := rfl
@[simp] theorem finish_rst (r : Result) (b : List Byte) (v : Word) (s : State) :
    (finish r b v s).rst = s.rst := rfl
@[simp] theorem finish_req (r : Result) (b : List Byte) (v : Word) (s : State) :
    (finish r b v s).req = s.req := rfl
@[simp] theorem finish_rsp (r : Result) (b : List Byte) (v : Word) (s : State) :
    (finish r b v s).rsp = { valid := true, result := r, n := responseCount b.length s.freeCount, bytes := b, value := v } := rfl
@[simp] theorem finish_bus (r : Result) (b : List Byte) (v : Word) (s : State) :
    (finish r b v s).bus = s.bus := rfl
@[simp] theorem finish_busIn (r : Result) (b : List Byte) (v : Word) (s : State) :
    (finish r b v s).busIn = s.busIn := rfl
@[simp] theorem finish_timer (r : Result) (b : List Byte) (v : Word) (s : State) :
    (finish r b v s).timer = s.timer := rfl
@[simp] theorem finish_timerIn (r : Result) (b : List Byte) (v : Word) (s : State) :
    (finish r b v s).timerIn = s.timerIn := rfl
@[simp] theorem finish_hostResetReq (r : Result) (b : List Byte) (v : Word) (s : State) :
    (finish r b v s).hostResetReq = s.hostResetReq := rfl
@[simp] theorem finish_hostResets (r : Result) (b : List Byte) (v : Word) (s : State) :
    (finish r b v s).hostResets = s.hostResets := rfl
@[simp] theorem finish_script (r : Result) (b : List Byte) (v : Word) (s : State) :
    (finish r b v s).script = s.script := rfl
@[simp] theorem finish_freeCount (r : Result) (b : List Byte) (v : Word) (s : State) :
    (finish r b v s).freeCount = if b.length < 256 then s.freeCount else s.freeCount + 1 := rfl

/-! ### beginAttempt -/

@[simp] theorem beginAttempt_cfg (s : State) : (beginAttempt s).cfg = s.cfg := rfl
@[simp] theorem beginAttempt_status (s : State) : (beginAttempt s).status = s.status := rfl
@[simp] theorem beginAttempt_st (s : State) : (beginAttempt s).st = .eWr := rfl
@[simp] theorem beginAttempt_attempts (s : State) : (beginAttempt s).attempts = s.attempts := rfl
@[simp] theorem beginAttempt_seq (s : State) : (beginAttempt s).seq = s.seq := rfl
@[simp] theorem beginAttempt_latch (s : State) : (beginAttempt s).latch = s.latch := rfl
@[simp] theorem beginAttempt_run (s : State) : (beginAttempt s).run = s.run := rfl
@[simp] theorem beginAttempt_pfail (s : State) : (beginAttempt s).pfail = s.cfg.code.eNone := rfl
@[simp] theorem beginAttempt_outcome (s : State) : (beginAttempt s).outcome = s.outcome := rfl
@[simp] theorem beginAttempt_abandonedAny (s : State) : (beginAttempt s).abandonedAny = s.abandonedAny := rfl
@[simp] theorem beginAttempt_init (s : State) : (beginAttempt s).init = s.init := rfl
@[simp] theorem beginAttempt_lastResult (s : State) : (beginAttempt s).lastResult = s.lastResult := rfl
@[simp] theorem beginAttempt_rst (s : State) : (beginAttempt s).rst = s.rst := rfl
@[simp] theorem beginAttempt_req (s : State) : (beginAttempt s).req = s.req := rfl
@[simp] theorem beginAttempt_rsp (s : State) : (beginAttempt s).rsp = s.rsp := rfl
@[simp] theorem beginAttempt_bus (s : State) :
    (beginAttempt s).bus = some (.write s.cfg.devAddr (s.run.eframe.take s.run.eframeN)) := rfl
@[simp] theorem beginAttempt_busIn (s : State) : (beginAttempt s).busIn = s.busIn := rfl
@[simp] theorem beginAttempt_timer (s : State) : (beginAttempt s).timer = s.timer := rfl
@[simp] theorem beginAttempt_timerIn (s : State) : (beginAttempt s).timerIn = s.timerIn := rfl
@[simp] theorem beginAttempt_hostResetReq (s : State) : (beginAttempt s).hostResetReq = s.hostResetReq := rfl
@[simp] theorem beginAttempt_hostResets (s : State) : (beginAttempt s).hostResets = s.hostResets := rfl
@[simp] theorem beginAttempt_script (s : State) : (beginAttempt s).script = s.script := rfl
@[simp] theorem beginAttempt_freeCount (s : State) : (beginAttempt s).freeCount = s.freeCount := rfl

/-! ### pollStart -/

@[simp] theorem pollStart_cfg (s : State) : (pollStart s).cfg = s.cfg := rfl
@[simp] theorem pollStart_status (s : State) : (pollStart s).status = s.status := rfl
@[simp] theorem pollStart_st (s : State) : (pollStart s).st = .pWr := rfl
@[simp] theorem pollStart_attempts (s : State) : (pollStart s).attempts = s.attempts := rfl
@[simp] theorem pollStart_seq (s : State) : (pollStart s).seq = s.seq := rfl
@[simp] theorem pollStart_latch (s : State) : (pollStart s).latch = s.latch := rfl
@[simp] theorem pollStart_run (s : State) : (pollStart s).run = s.run := rfl
@[simp] theorem pollStart_pfail (s : State) : (pollStart s).pfail = s.pfail := rfl
@[simp] theorem pollStart_outcome (s : State) : (pollStart s).outcome = s.outcome := rfl
@[simp] theorem pollStart_abandonedAny (s : State) : (pollStart s).abandonedAny = s.abandonedAny := rfl
@[simp] theorem pollStart_init (s : State) : (pollStart s).init = s.init := rfl
@[simp] theorem pollStart_lastResult (s : State) : (pollStart s).lastResult = s.lastResult := rfl
@[simp] theorem pollStart_rst (s : State) : (pollStart s).rst = s.rst := rfl
@[simp] theorem pollStart_req (s : State) : (pollStart s).req = s.req := rfl
@[simp] theorem pollStart_rsp (s : State) : (pollStart s).rsp = s.rsp := rfl
@[simp] theorem pollStart_bus (s : State) :
    (pollStart s).bus = some (.write s.cfg.devAddr (pollFrame s.cfg)) := rfl
@[simp] theorem pollStart_busIn (s : State) : (pollStart s).busIn = s.busIn := rfl
@[simp] theorem pollStart_timer (s : State) : (pollStart s).timer = s.timer := rfl
@[simp] theorem pollStart_timerIn (s : State) : (pollStart s).timerIn = s.timerIn := rfl
@[simp] theorem pollStart_hostResetReq (s : State) : (pollStart s).hostResetReq = s.hostResetReq := rfl
@[simp] theorem pollStart_hostResets (s : State) : (pollStart s).hostResets = s.hostResets := rfl
@[simp] theorem pollStart_script (s : State) : (pollStart s).script = s.script := rfl
@[simp] theorem pollStart_freeCount (s : State) : (pollStart s).freeCount = s.freeCount := rfl

/-! ### engineStart -/

@[simp] theorem engineStart_cfg (c : Byte) (p : List Byte) (d : Dir) (s : State) :
    (engineStart c p d s).cfg = s.cfg := rfl
@[simp] theorem engineStart_status (c : Byte) (p : List Byte) (d : Dir) (s : State) :
    (engineStart c p d s).status = s.status := rfl
@[simp] theorem engineStart_st (c : Byte) (p : List Byte) (d : Dir) (s : State) :
    (engineStart c p d s).st = .eWr := rfl
@[simp] theorem engineStart_attempts (c : Byte) (p : List Byte) (d : Dir) (s : State) :
    (engineStart c p d s).attempts = 0 := rfl
@[simp] theorem engineStart_seq (c : Byte) (p : List Byte) (d : Dir) (s : State) :
    (engineStart c p d s).seq = s.seq := rfl
@[simp] theorem engineStart_latch (c : Byte) (p : List Byte) (d : Dir) (s : State) :
    (engineStart c p d s).latch = s.latch := rfl
@[simp] theorem engineStart_run (c : Byte) (p : List Byte) (d : Dir) (s : State) :
    (engineStart c p d s).run = { ecmd := c, edir := d, eframe := encodeFrame s.cfg c p, eframeN := p.length + 3 } := rfl
@[simp] theorem engineStart_pfail (c : Byte) (p : List Byte) (d : Dir) (s : State) :
    (engineStart c p d s).pfail = s.cfg.code.eNone := rfl
@[simp] theorem engineStart_outcome (c : Byte) (p : List Byte) (d : Dir) (s : State) :
    (engineStart c p d s).outcome = s.outcome := rfl
@[simp] theorem engineStart_abandonedAny (c : Byte) (p : List Byte) (d : Dir) (s : State) :
    (engineStart c p d s).abandonedAny = s.abandonedAny := rfl
@[simp] theorem engineStart_init (c : Byte) (p : List Byte) (d : Dir) (s : State) :
    (engineStart c p d s).init = s.init := rfl
@[simp] theorem engineStart_lastResult (c : Byte) (p : List Byte) (d : Dir) (s : State) :
    (engineStart c p d s).lastResult = s.lastResult := rfl
@[simp] theorem engineStart_rst (c : Byte) (p : List Byte) (d : Dir) (s : State) :
    (engineStart c p d s).rst = s.rst := rfl
@[simp] theorem engineStart_req (c : Byte) (p : List Byte) (d : Dir) (s : State) :
    (engineStart c p d s).req = s.req := rfl
@[simp] theorem engineStart_rsp (c : Byte) (p : List Byte) (d : Dir) (s : State) :
    (engineStart c p d s).rsp = s.rsp := rfl
@[simp] theorem engineStart_bus (c : Byte) (p : List Byte) (d : Dir) (s : State) :
    (engineStart c p d s).bus = some (.write s.cfg.devAddr ((encodeFrame s.cfg c p).take (p.length + 3))) := rfl
@[simp] theorem engineStart_busIn (c : Byte) (p : List Byte) (d : Dir) (s : State) :
    (engineStart c p d s).busIn = s.busIn := rfl
@[simp] theorem engineStart_timer (c : Byte) (p : List Byte) (d : Dir) (s : State) :
    (engineStart c p d s).timer = s.timer := rfl
@[simp] theorem engineStart_timerIn (c : Byte) (p : List Byte) (d : Dir) (s : State) :
    (engineStart c p d s).timerIn = s.timerIn := rfl
@[simp] theorem engineStart_hostResetReq (c : Byte) (p : List Byte) (d : Dir) (s : State) :
    (engineStart c p d s).hostResetReq = s.hostResetReq := rfl
@[simp] theorem engineStart_hostResets (c : Byte) (p : List Byte) (d : Dir) (s : State) :
    (engineStart c p d s).hostResets = s.hostResets := rfl
@[simp] theorem engineStart_script (c : Byte) (p : List Byte) (d : Dir) (s : State) :
    (engineStart c p d s).script = s.script := rfl
@[simp] theorem engineStart_freeCount (c : Byte) (p : List Byte) (d : Dir) (s : State) :
    (engineStart c p d s).freeCount = s.freeCount := rfl

/-! ### drive: only the input ports and the script change -/

@[simp] theorem drive_cfg (s : State) : (drive s).cfg = s.cfg := by
  unfold drive; split <;> rfl
@[simp] theorem drive_status (s : State) : (drive s).status = s.status := by
  unfold drive; split <;> rfl
@[simp] theorem drive_st (s : State) : (drive s).st = s.st := by
  unfold drive; split <;> rfl
@[simp] theorem drive_attempts (s : State) : (drive s).attempts = s.attempts := by
  unfold drive; split <;> rfl
@[simp] theorem drive_seq (s : State) : (drive s).seq = s.seq := by
  unfold drive; split <;> rfl
@[simp] theorem drive_latch (s : State) : (drive s).latch = s.latch := by
  unfold drive; split <;> rfl
@[simp] theorem drive_run (s : State) : (drive s).run = s.run := by
  unfold drive; split <;> rfl
@[simp] theorem drive_pfail (s : State) : (drive s).pfail = s.pfail := by
  unfold drive; split <;> rfl
@[simp] theorem drive_outcome (s : State) : (drive s).outcome = s.outcome := by
  unfold drive; split <;> rfl
@[simp] theorem drive_abandonedAny (s : State) : (drive s).abandonedAny = s.abandonedAny := by
  unfold drive; split <;> rfl
@[simp] theorem drive_init (s : State) : (drive s).init = s.init := by
  unfold drive; split <;> rfl
@[simp] theorem drive_lastResult (s : State) : (drive s).lastResult = s.lastResult := by
  unfold drive; split <;> rfl
@[simp] theorem drive_rsp (s : State) : (drive s).rsp = s.rsp := by
  unfold drive; split <;> rfl
@[simp] theorem drive_bus (s : State) : (drive s).bus = s.bus := by
  unfold drive; split <;> rfl
@[simp] theorem drive_timer (s : State) : (drive s).timer = s.timer := by
  unfold drive; split <;> rfl
@[simp] theorem drive_hostResetReq (s : State) : (drive s).hostResetReq = s.hostResetReq := by
  unfold drive; split <;> rfl
@[simp] theorem drive_hostResets (s : State) : (drive s).hostResets = s.hostResets := by
  unfold drive; split <;> rfl
@[simp] theorem drive_freeCount (s : State) : (drive s).freeCount = s.freeCount := by
  unfold drive; split <;> rfl

/-! ### decodeInto: only the status register file changes -/

@[simp] theorem decodeInto_cfg (raw : List Byte) (e : Byte) (s : State) :
    (decodeInto raw e s).cfg = s.cfg := by
  unfold decodeInto; split <;> rfl
@[simp] theorem decodeInto_st (raw : List Byte) (e : Byte) (s : State) :
    (decodeInto raw e s).st = s.st := by
  unfold decodeInto; split <;> rfl
@[simp] theorem decodeInto_attempts (raw : List Byte) (e : Byte) (s : State) :
    (decodeInto raw e s).attempts = s.attempts := by
  unfold decodeInto; split <;> rfl
@[simp] theorem decodeInto_seq (raw : List Byte) (e : Byte) (s : State) :
    (decodeInto raw e s).seq = s.seq := by
  unfold decodeInto; split <;> rfl
@[simp] theorem decodeInto_latch (raw : List Byte) (e : Byte) (s : State) :
    (decodeInto raw e s).latch = s.latch := by
  unfold decodeInto; split <;> rfl
@[simp] theorem decodeInto_run (raw : List Byte) (e : Byte) (s : State) :
    (decodeInto raw e s).run = s.run := by
  unfold decodeInto; split <;> rfl
@[simp] theorem decodeInto_pfail (raw : List Byte) (e : Byte) (s : State) :
    (decodeInto raw e s).pfail = s.pfail := by
  unfold decodeInto; split <;> rfl
@[simp] theorem decodeInto_outcome (raw : List Byte) (e : Byte) (s : State) :
    (decodeInto raw e s).outcome = s.outcome := by
  unfold decodeInto; split <;> rfl
@[simp] theorem decodeInto_abandonedAny (raw : List Byte) (e : Byte) (s : State) :
    (decodeInto raw e s).abandonedAny = s.abandonedAny := by
  unfold decodeInto; split <;> rfl
@[simp] theorem decodeInto_init (raw : List Byte) (e : Byte) (s : State) :
    (decodeInto raw e s).init = s.init := by
  unfold decodeInto; split <;> rfl
@[simp] theorem decodeInto_lastResult (raw : List Byte) (e : Byte) (s : State) :
    (decodeInto raw e s).lastResult = s.lastResult := by
  unfold decodeInto; split <;> rfl
@[simp] theorem decodeInto_rst (raw : List Byte) (e : Byte) (s : State) :
    (decodeInto raw e s).rst = s.rst := by
  unfold decodeInto; split <;> rfl
@[simp] theorem decodeInto_req (raw : List Byte) (e : Byte) (s : State) :
    (decodeInto raw e s).req = s.req := by
  unfold decodeInto; split <;> rfl
@[simp] theorem decodeInto_rsp (raw : List Byte) (e : Byte) (s : State) :
    (decodeInto raw e s).rsp = s.rsp := by
  unfold decodeInto; split <;> rfl
@[simp] theorem decodeInto_bus (raw : List Byte) (e : Byte) (s : State) :
    (decodeInto raw e s).bus = s.bus := by
  unfold decodeInto; split <;> rfl
@[simp] theorem decodeInto_busIn (raw : List Byte) (e : Byte) (s : State) :
    (decodeInto raw e s).busIn = s.busIn := by
  unfold decodeInto; split <;> rfl
@[simp] theorem decodeInto_timer (raw : List Byte) (e : Byte) (s : State) :
    (decodeInto raw e s).timer = s.timer := by
  unfold decodeInto; split <;> rfl
@[simp] theorem decodeInto_timerIn (raw : List Byte) (e : Byte) (s : State) :
    (decodeInto raw e s).timerIn = s.timerIn := by
  unfold decodeInto; split <;> rfl
@[simp] theorem decodeInto_hostResetReq (raw : List Byte) (e : Byte) (s : State) :
    (decodeInto raw e s).hostResetReq = s.hostResetReq := by
  unfold decodeInto; split <;> rfl
@[simp] theorem decodeInto_hostResets (raw : List Byte) (e : Byte) (s : State) :
    (decodeInto raw e s).hostResets = s.hostResets := by
  unfold decodeInto; split <;> rfl
@[simp] theorem decodeInto_script (raw : List Byte) (e : Byte) (s : State) :
    (decodeInto raw e s).script = s.script := by
  unfold decodeInto; split <;> rfl
@[simp] theorem decodeInto_freeCount (raw : List Byte) (e : Byte) (s : State) :
    (decodeInto raw e s).freeCount = s.freeCount := by
  unfold decodeInto; split <;> rfl

end Sys2Proof.Machine
end

