-- ==== Sys2Proof/Laws/Ops.lean ====
section
/-! SUPPORT. What the shared operations and one step can do, each said once: the run's start and end, the
answers of the ports, and the inversion of `step`. -/

namespace Sys2Proof.Machine

open Sys2Proof

/-! ## Operations of a run -/

/-- R143: with ATTEMPTS = 0 the loop test never fails, so ENGINE_TOP makes an attempt (log 19). -/
theorem engineTop_of_zero (s : State) (h : s.attempts = 0) : engineTop s = beginAttempt s := by
  simp [engineTop, h]

theorem engineTop_of_le (s : State) (h : s.attempts.toNat ≤ s.cfg.maxRetries.toNat) :
    engineTop s = beginAttempt s := by
  simp [engineTop, Nat.not_lt.mpr h]

theorem engineTop_of_lt (s : State) (h : s.cfg.maxRetries.toNat < s.attempts.toNat) :
    engineTop s = engineReturn .abandoned s := by
  simp [engineTop, h]

/-- R142: ENGINE_START as the rule writes it, through ENGINE_TOP. -/
theorem engineStart_eq_engineTop (cmd : Byte) (p : List Byte) (d : Dir) (s : State) :
    engineStart cmd p d s =
      engineTop
        { s with
          run :=
            { ecmd := cmd, edir := d, eframe := encodeFrame s.cfg cmd p, eframeN := p.length + 3 }
          attempts := 0 } := by
  rw [engineTop_of_zero _ rfl]; rfl

/-- What ENGINE_START leaves, field by field (R142, R143). -/
theorem engineStart_eq (cmd : Byte) (p : List Byte) (d : Dir) (s : State) :
    engineStart cmd p d s =
      { s with
        run :=
          { ecmd := cmd, edir := d, eframe := wireFrame s.cfg cmd p, eframeN := p.length + 3 }
        attempts := 0
        pfail := s.cfg.code.eNone
        bus := some (.write s.cfg.devAddr (wireFrame s.cfg cmd p))
        st := .eWr } := by
  rw [← encodeFrame_eq_wireFrame]
  simp [engineStart, beginAttempt, issueWrite]

/-- R157 for a response of at most 255 bytes: no free value is drawn. -/
theorem finish_of_short (r : Result) (b : List Byte) (v : Word) (s : State) (h : b.length < 256) :
    finish r b v s =
      { s with
        rsp :=
          { valid := true, result := r, n := BitVec.ofNat 8 b.length, bytes := b, value := v }
        lastResult := r, seq := .plain, st := .idle } := by
  simp [finish, responseCount, h]

theorem finish_nil (r : Result) (v : Word) (s : State) :
    finish r [] v s =
      { s with rsp := bareReply r v, lastResult := r, seq := .plain, st := .idle } := rfl

theorem pollFrame_eq (c : Config) : pollFrame c = wireFrame c c.cmd.errorRead [] :=
  encodeFrame_eq_wireFrame c c.cmd.errorRead []

/-- Every operation's accepting step has a next state. -/
theorem exec_next (i : Instr) (s : State) : ∃ u, exec i s = .next u := by
  cases i <;> exact ⟨_, rfl⟩

/-! ## Frames in the statements' terms -/

theorem decodeFrame_of_good {c : Config} {raw : List Byte} {e : Byte} (h : GoodFrame c raw e) :
    decodeFrame c raw e = .good (raw.drop 2).dropLast := by
  rw [decodeFrame_good]
  exact ⟨h.1, by rw [checksum_eq_complementOfSum]; exact h.2.1, h.2.2, rfl⟩

theorem goodFrame_of_decodeFrame {c : Config} {raw : List Byte} {e : Byte} {pl : List Byte}
    (h : decodeFrame c raw e = .good pl) : GoodFrame c raw e := by
  rw [decodeFrame_good] at h
  exact ⟨h.1, by rw [← checksum_eq_complementOfSum]; exact h.2.1, h.2.2.1⟩

theorem decodeFrame_of_bad {c : Config} {raw : List Byte} {e code : Byte}
    (h : BadFrame c raw e code) : decodeFrame c raw e = .failed code := by
  unfold decodeFrame decodeMin
  rw [checksum_eq_complementOfSum]
  rcases h with ⟨h1, rfl⟩ | ⟨h1, h2, rfl⟩ | ⟨h1, h2, h3, rfl⟩
  · rw [if_pos h1]
  · rw [if_neg (by omega), if_pos h2]
  · rw [if_neg (by omega), if_neg (by simp [h2]), if_pos h3]

theorem badFrame_of_decodeFrame {c : Config} {raw : List Byte} {e code : Byte}
    (h : decodeFrame c raw e = .failed code) : BadFrame c raw e code := by
  unfold decodeFrame at h
  rw [checksum_eq_complementOfSum] at h
  by_cases h1 : raw.length < decodeMin c e
  · rw [if_pos h1] at h
    cases h
    exact .inl ⟨h1, rfl⟩
  · rw [if_neg h1] at h
    by_cases h2 : raw.getLast? ≠ some (complementOfSum raw.dropLast)
    · rw [if_pos h2] at h
      cases h
      exact .inr (.inl ⟨Nat.le_of_not_lt h1, h2, rfl⟩)
    · rw [if_neg h2] at h
      by_cases h3 : raw[1]? ≠ some e
      · rw [if_pos h3] at h
        cases h
        exact .inr (.inr ⟨Nat.le_of_not_lt h1, Decidable.not_not.mp h2, h3, rfl⟩)
      · rw [if_neg h3] at h
        cases h

/-- A 4-byte frame of an id that is not the front distance is a good frame. -/
theorem FourByteFrame.good {c : Config} {raw : List Byte} {e b : Byte} (h : FourByteFrame raw e b)
    (he : e ≠ c.cmd.frontDistance) : GoodFrame c raw e := by
  obtain ⟨len, rfl⟩ := h
  simp [GoodFrame, he]

theorem PollReads.good {c : Config} {raw : List Byte} {b : Byte} (hc : c.legal = true)
    (h : PollReads c raw b) : GoodFrame c raw c.cmd.errorRead :=
  FourByteFrame.good h (Config.ids_distinct hc).2.2.1.symm

theorem PollReads.byte {c : Config} {raw : List Byte} {b : Byte} (h : PollReads c raw b) :
    raw.getD 2 0 = b := by
  obtain ⟨len, rfl⟩ := h
  rfl

theorem PollReads.length {c : Config} {raw : List Byte} {b : Byte} (h : PollReads c raw b) :
    raw.length = 4 := by
  obtain ⟨len, rfl⟩ := h
  rfl

/-- The decode of a valid error-status response writes ERR and nothing else (R119). -/
theorem PollReads.decodeInto {s : State} {raw : List Byte} {b : Byte} (hc : s.cfg.legal = true)
    (h : PollReads s.cfg raw b) :
    decodeInto raw s.cfg.cmd.errorRead s = { s with status := { s.status with err := b } } := by
  rw [decodeInto_of_good (decodeFrame_of_good (h.good hc))]
  rw [writebackStatus, if_pos rfl, h.byte]

/-! ## One step -/

/-- The step of an accepted, not refused request (R140). -/
theorem step_of_offered {s : State} {i : Instr} (h : Offered s) (hd : presented s = .ok i) :
    step s = settle (exec i (takeRequest s)) := by
  obtain ⟨h1, h2, h3, h4⟩ := h
  simp [step, accepts, State.reqReady, h1, h2, h3, h4, hd]

/-- The step of a refused request (R91). -/
theorem step_of_refused {s : State} {e : Reject} (h : Offered s) (hd : presented s = .error e) :
    step s = .next (drive (refuse (takeRequest s))) := by
  obtain ⟨h1, h2, h3, h4⟩ := h
  simp [step, accepts, State.reqReady, h1, h2, h3, h4, hd]

/-- Outside acceptance, with a legal configuration and no reset, STATE decides. -/
theorem step_of_phase {s : State} (h1 : s.cfg.legal = true) (h2 : s.rst = false)
    (h3 : s.st ≠ .idle ∨ s.req.valid = false) : step s = phaseStep s := by
  have h : accepts s = false := by
    rcases h3 with h3 | h3 <;> simp [accepts, State.reqReady, h3]
  simp [step, h, waitStep, h1, h2]

theorem step_of_reset {s : State} (h1 : s.cfg.legal = true) (h2 : s.rst = true) :
    step s = .next (drive (blockReset s)) := by
  simp [step, accepts, waitStep, h1, h2]

theorem step_of_illegal {s : State} (h : s.cfg.legal = false) :
    step s = .refused .illegalConfiguration := by
  simp [step, accepts, waitStep, h]

theorem answered_of_busAnswered {s : State} {a : BusAnswer} (h : BusAnswered s a) :
    ∃ r, answered s = some (r, a) ∧ r.admits a = true := by
  obtain ⟨_, _, h3, r, h4, h5⟩ := h
  exact ⟨r, by simp [answered, h3, h4], h5⟩

theorem onBus_of_answered {s : State} {a : BusAnswer} (h : BusAnswered s a)
    (k : BusAnswer → State → Outcome) : onBus k s = settle (k a (busTaken s)) := by
  obtain ⟨r, h1, h2⟩ := answered_of_busAnswered h
  simp [onBus, h1, h2, busTaken]

theorem onDone_of_answered {s : State} (h : DelayAnswered s) (k : State → Outcome) :
    onDone k s = settle (k (delayTaken s)) := by
  obtain ⟨_, _, h3, h4⟩ := h
  obtain ⟨m, hm⟩ := Option.isSome_iff_exists.mp h4
  simp [onDone, delayDone, h3, hm, delayTaken]

/-- The step of a state that takes the transport's answer. -/
theorem step_of_busAnswered {s : State} {a : BusAnswer} {k : BusAnswer → State → Outcome}
    (h : BusAnswered s a) (hi : s.st ≠ .idle) (hk : phaseStep s = onBus k s) :
    step s = settle (k a (busTaken s)) := by
  rw [step_of_phase h.1 h.2.1 (.inl hi), hk, onBus_of_answered h]

/-- The step of a state that takes DONE. -/
theorem step_of_delayAnswered {s : State} {k : State → Outcome}
    (h : DelayAnswered s) (hi : s.st ≠ .idle) (hk : phaseStep s = onDone k s) :
    step s = settle (k (delayTaken s)) := by
  rw [step_of_phase h.1 h.2.1 (.inl hi), hk, onDone_of_answered h]

/-- Which function takes the transport's answer in each state. -/
def busHandler : Phase → BusAnswer → State → Outcome
  | .eWr => onPrimaryWrite
  | .eRd => onPrimaryRead
  | .pWr => onPollWrite
  | .pRd => onPollRead
  | .lWr => onLockoutWrite
  | .lRd => onLockoutRead
  | .iScan => onScan
  | .iWr => onStartKeyWrite
  | _ => fun _ _ => .refused .answerOutsideContract

/-- Which function takes DONE in each state. -/
def delayHandler : Phase → State → Outcome
  | .backoff => onBackoffDone
  | .lWait => onLockoutDelayDone
  | .lPause => onClearPauseDone
  | .cWait => onCompletionDelayDone
  | .iWait => onInitDelayDone
  | _ => fun _ => .refused .answerOutsideContract

/-- Everything a step that answers a next state can be: a reset, an accepted operation, a refused
request, the environment's move alone, or the answer of the transport or the timer. -/
inductive StepKind (s t : State) : Prop where
  | reset (hr : s.rst = true) (ht : t = drive (blockReset s))
  | ran (i : Instr) (u : State) (ho : Offered s) (hd : presented s = .ok i)
      (hx : exec i (takeRequest s) = .next u) (ht : t = drive u)
  | refusal (e : Reject) (ho : Offered s) (hd : presented s = .error e)
      (ht : t = drive (refuse (takeRequest s)))
  | quiet (hr : s.rst = false) (hs : s.script ≠ []) (ht : t = drive (openStep s))
  | bus (a : BusAnswer) (u : State) (ha : BusAnswered s a)
      (hx : busHandler s.st a (busTaken s) = .next u) (ht : t = drive u)
  | delay (u : State) (ha : DelayAnswered s)
      (hx : delayHandler s.st (delayTaken s) = .next u) (ht : t = drive u)

theorem noStep_next {f : Fault} {s t : State} (h : noStep f s = .next t) :
    s.script ≠ [] ∧ t = drive (openStep s) := by
  unfold noStep at h
  split at h
  · cases h
  · next hs => cases h; exact ⟨by simp [hs], rfl⟩

theorem settle_next {o : Outcome} {t : State} (h : settle o = .next t) :
    ∃ u, o = .next u ∧ t = drive u := by
  cases o with
  | next u => cases h; exact ⟨u, rfl, rfl⟩
  | fault f => cases h
  | refused r => cases h

theorem onBus_next {k : BusAnswer → State → Outcome} {s t : State} (h1 : s.cfg.legal = true)
    (h2 : s.rst = false) (h : onBus k s = .next t) :
    (s.script ≠ [] ∧ t = drive (openStep s)) ∨
      ∃ a u, BusAnswered s a ∧ k a (busTaken s) = .next u ∧ t = drive u := by
  unfold onBus at h
  split at h
  · exact .inl (noStep_next h)
  · next r a ha =>
    split at h
    · next hr =>
      obtain ⟨u, hu, ht⟩ := settle_next h
      refine .inr ⟨a, u, ⟨h1, h2, ?_⟩, hu, ht⟩
      unfold answered at ha
      split at ha
      · next r' m hb hm =>
        split at ha
        · cases ha
        · next hl =>
          cases ha
          refine ⟨?_, r, hb, hr⟩
          rw [hm]
          cases m
          simp_all
      · cases ha
    · cases h

theorem onDone_next {k : State → Outcome} {s t : State} (h1 : s.cfg.legal = true)
    (h2 : s.rst = false) (h : onDone k s = .next t) :
    (s.script ≠ [] ∧ t = drive (openStep s)) ∨
      ∃ u, DelayAnswered s ∧ k (delayTaken s) = .next u ∧ t = drive u := by
  unfold onDone at h
  split at h
  · next hd =>
    obtain ⟨u, hu, ht⟩ := settle_next h
    refine .inr ⟨u, ⟨h1, h2, ?_⟩, hu, ht⟩
    unfold delayDone at hd
    split at hd
    · next r m hb hm =>
      rw [hm, hb]
      cases m
      simp_all
    · cases hd
  · exact .inl (noStep_next h)

/-- The inversion of `step`: an answered next state is one of the kinds of `StepKind`. -/
theorem step_kind {s t : State} (h : step s = .next t) : s.cfg.legal = true ∧ StepKind s t := by
  by_cases hl : s.cfg.legal = true
  · refine ⟨hl, ?_⟩
    by_cases hr : s.rst = true
    · rw [step_of_reset hl hr] at h
      cases h
      exact .reset hr rfl
    · have hr : s.rst = false := by simpa using hr
      by_cases ho : s.st = .idle ∧ s.req.valid = true
      · have hof : Offered s := ⟨hl, hr, ho.1, ho.2⟩
        cases hd : presented s with
        | ok i =>
          rw [step_of_offered hof hd] at h
          obtain ⟨u, hu, ht⟩ := settle_next h
          exact .ran i u hof hd hu ht
        | error e =>
          rw [step_of_refused hof hd] at h
          cases h
          exact .refusal e hof hd rfl
      · rw [step_of_phase hl hr (by
          rcases Classical.em (s.st = .idle) with h1 | h1
          · exact .inr (by simpa [h1] using ho)
          · exact .inl h1)] at h
        have bus {k} (hk : onBus k s = .next t) (hh : busHandler s.st = k) : StepKind s t := by
          rcases onBus_next hl hr hk with ⟨h1, h2⟩ | ⟨a, u, h1, h2, h3⟩
          · exact .quiet hr h1 h2
          · exact .bus a u h1 (hh ▸ h2) h3
        have del {k} (hk : onDone k s = .next t) (hh : delayHandler s.st = k) : StepKind s t := by
          rcases onDone_next hl hr hk with ⟨h1, h2⟩ | ⟨u, h1, h2, h3⟩
          · exact .quiet hr h1 h2
          · exact .delay u h1 (hh ▸ h2) h3
        unfold phaseStep at h
        split at h
        all_goals
          first
          | exact bus h (by simp_all [busHandler])
          | exact del h (by simp_all [delayHandler])
          | exact .quiet hr (noStep_next h).1 (noStep_next h).2
  · rw [step_of_illegal (by simpa using hl)] at h
    cases h

/-! ## What an answer leads to, state by state -/

/-- Everything the transport's answer `a` can lead to in the state `p` from `b`, the answer already off the
port (R144 to R155, R160, R191, R192). -/
inductive BusStep : Phase → BusAnswer → State → State → Prop
  | toRead (b : State) (h : b.run.edir = .rx) :
      BusStep .eWr .ok b (issueRead (rxLen b.cfg b.run.ecmd) .eRd b)
  | toPoll (b : State) (h : b.run.edir = .tx) : BusStep .eWr .ok b (pollStart b)
  | primary (b : State) (raw : List Byte) :
      BusStep .eRd (.data raw) b
        (pollStart
          { decodeInto raw b.run.ecmd b with
            pfail := (decodeFrame b.cfg raw b.run.ecmd).code b.cfg })
  | pollSent (b : State) :
      BusStep .pWr .ok b (issueRead (rxLen b.cfg b.cfg.cmd.errorRead) .pRd b)
  | polled (b : State) (raw : List Byte) : BusStep .pRd (.data raw) b (pollBranch raw b)
  | absent (b : State) (p : Phase) (h : p.inAttempt = true) :
      BusStep p .absent b (escalate .absent b)
  | fault (b : State) (p : Phase)
      (h : p.inAttempt = true ∨ p = .lWr ∨ p = .lRd ∨ p = .iScan ∨ p = .iWr) :
      BusStep p .fault b (finish .fault [] 0 b)
  | lockSent (b : State) :
      BusStep .lWr .ok b (issueRead (rxLen b.cfg b.cfg.cmd.errorRead) .lRd b)
  | lockRead (b : State) (raw : List Byte) : BusStep .lRd (.data raw) b (lockoutTest raw b)
  | lockAbsent (b : State) (p : Phase) (h : p = .lWr ∨ p = .lRd) :
      BusStep p .absent b (issueDelay b.cfg.cliffPollMs .lWait b)
  | scanFound (b : State) (present : List BusAddr) (h : b.cfg.devAddr ∈ present) :
      BusStep .iScan (.devices present) b (issueWrite (startKeyFrame b.cfg) .iWr b)
  | scanMissed (b : State) (present : List BusAddr) (h : b.cfg.devAddr ∉ present) :
      BusStep .iScan (.devices present) b (issueDelay b.init.delayMs .iWait b)
  | keySent (b : State) : BusStep .iWr .ok b (finish .ok [] 0 b)
  | keyAbsent (b : State) : BusStep .iWr .absent b (issueDelay b.init.delayMs .iWait b)

theorem busHandler_next {p : Phase} {a : BusAnswer} {b u : State}
    (h : busHandler p a b = .next u) : BusStep p a b u := by
  cases p <;> cases a <;> try (cases h; done)
  case eWr.ok =>
    simp only [busHandler, onPrimaryWrite] at h
    split at h
    · next hd => cases h; exact .toRead b hd
    · next hd => cases h; exact .toPoll b hd
  case iScan.devices present =>
    simp only [busHandler, onScan] at h
    split at h
    · next hd => cases h; exact .scanFound b present (by simpa using hd)
    · next hd => cases h; exact .scanMissed b present (by simpa using hd)
  case eRd.data => cases h; exact .primary b _
  case pWr.ok => cases h; exact .pollSent b
  case pRd.data => cases h; exact .polled b _
  case lWr.ok => cases h; exact .lockSent b
  case lRd.data => cases h; exact .lockRead b _
  case iWr.ok => cases h; exact .keySent b
  case iWr.absent => cases h; exact .keyAbsent b
  case lWr.absent => cases h; exact .lockAbsent b _ (.inl rfl)
  case lRd.absent => cases h; exact .lockAbsent b _ (.inr rfl)
  case eWr.absent => cases h; exact .absent b _ rfl
  case eRd.absent => cases h; exact .absent b _ rfl
  case pWr.absent => cases h; exact .absent b _ rfl
  case pRd.absent => cases h; exact .absent b _ rfl
  all_goals cases h; exact .fault b _ (by simp [Phase.inAttempt])

/-- Everything DONE can lead to (R153, R154, R156, R185, R193). -/
inductive DelayStep : Phase → State → State → Prop
  | backoff (b : State) : DelayStep .backoff b (engineTop b)
  | repoll (b : State) : DelayStep .lWait b (issueWrite (pollFrame b.cfg) .lWr b)
  | pauseOver (b : State) : DelayStep .lPause b (beginAttempt { b with attempts := 0 })
  | nextPoll (b : State) :
      DelayStep .cWait b (engineStart b.cfg.cmd.completionRead [] .rx b)
  | nextScan (b : State) :
      DelayStep .iWait b (initTop { b with init := { b.init with count := b.init.count + 1 } })

theorem delayHandler_next {p : Phase} {b u : State}
    (h : delayHandler p b = .next u) : DelayStep p b u := by
  cases p <;> try (cases h; done)
  case backoff => cases h; exact .backoff b
  case lWait => cases h; exact .repoll b
  case cWait => cases h; exact .nextPoll b
  case iWait => cases h; exact .nextScan b
  case lPause =>
    cases h
    rw [returnFromLockout, engineTop_of_zero _ rfl]
    exact .pauseOver b

/-- The four ends of an engine run (R159, R182, R184, R195). -/
inductive RunEnd (r : Result) (b : State) : State → Prop
  | plain (h : b.seq = .plain) : RunEnd r b (finish r [] 0 b)
  | actuated (h : b.seq = .txwTx) :
      RunEnd r b
        (engineStart b.cfg.cmd.completionRead [] .rx
          { markAbandoned r b with seq := .txwCmpl })
  | outstanding (h : b.seq = .txwCmpl) (hc : b.status.cmpl ≠ 0) :
      RunEnd r b (issueDelay b.cfg.completionPollMs .cWait (markAbandoned r b))
  | completed (h : b.seq = .txwCmpl) (hc : b.status.cmpl = 0) (q : Result) :
      RunEnd r b (finish q [] 0 (markAbandoned r b))
  | sensed (h : b.seq = .cliff) (v : Word) :
      RunEnd r b
        (finish r [] v { b with status := b.status.debounce b.cfg.cliffClearCount })

theorem engineReturn_end {r : Result} {b u : State} (hu : engineReturn r b = u) : RunEnd r b u := by
  subst hu
  unfold engineReturn
  split
  · next h => exact .plain h
  · next h => exact .actuated h
  · next h =>
    unfold afterCompletionPoll
    dsimp only
    split
    · next hc => exact .outstanding h (by simpa [StatusFile.outstanding] using hc)
    · next hc => exact .completed h (by simpa [StatusFile.outstanding] using hc) _
  · next h => exact .sensed h _

/-- The four branches at the end of an attempt (R152). -/
inductive Branched (e : Byte) (b : State) : State → Prop
  | clean (h : e = b.cfg.code.eNone) : Branched e b (engineReturn .ok b)
  | startKey (h : e = b.cfg.code.eStartKey) : Branched e b (issueHostReset b)
  | cliff (h : e = b.cfg.code.eCliff) : Branched e b (issueDelay b.cfg.cliffPollMs .lWait b)
  | other (h : e ≠ b.cfg.code.eNone) :
      Branched e b
        (issueDelay b.cfg.backoffErrorMs .backoff { b with attempts := b.attempts + 1 })

theorem branch_cases {e : Byte} {b u : State} (hu : branch e b = u) : Branched e b u := by
  subst hu
  unfold branch
  split
  · next h => exact .clean h
  · next h1 =>
    split
    · next h => exact .startKey h
    · split
      · next h => exact .cliff h
      · exact .other h1

/-- A loop exit, a pause or a further wait: the ends of one lockout re-poll (R155); `b` is the state after
the decode. -/
inductive Repolled (b : State) : State → Prop
  | again (h : b.status.err = b.cfg.code.eCliff) :
      Repolled b (issueDelay b.cfg.cliffPollMs .lWait b)
  | pause (h : b.status.err ≠ b.cfg.code.eCliff) (hp : b.cfg.cliffClearPauseMs ≠ 0) :
      Repolled b (issueDelay b.cfg.cliffClearPauseMs .lPause b)
  | resend (h : b.status.err ≠ b.cfg.code.eCliff) (hp : b.cfg.cliffClearPauseMs = 0) :
      Repolled b (beginAttempt { b with attempts := 0 })

theorem lockoutTest_cases {raw : List Byte} {b u : State} (hu : lockoutTest raw b = u) :
    Repolled (decodeInto raw b.cfg.cmd.errorRead b) u := by
  subst hu
  unfold lockoutTest
  dsimp only
  split
  · next h => simpa using Repolled.again h
  · next h =>
    split
    · next hp => simpa using Repolled.pause h (by simpa using hp)
    · next hp =>
      rw [returnFromLockout, engineTop_of_zero _ rfl]
      exact Repolled.resend h (by simpa using hp)

/-- What `effective` can answer (R151): the poll's own failure, the primary frame's failure when ERR is
E_NONE, or ERR. -/
theorem effective_cases (c : Config) (q p err : Byte) :
    (effective c q p err = q ∧ q ≠ c.code.eNone) ∨
    (effective c q p err = p ∧ p ≠ c.code.eNone ∧ err = c.code.eNone) ∨
    effective c q p err = err := by
  unfold effective
  split
  · split
    · next h => exact .inl ⟨rfl, h⟩
    · split
      · next h => exact .inr (.inl ⟨rfl, h.2, h.1⟩)
      · exact .inr (.inr rfl)
  · exact .inr (.inr rfl)

/-! ## Runs of several steps -/

theorem run_succ_of_next {s t : State} (k : Nat) (h : step s = .next t) :
    Sys2Proof.core.run (k + 1) s = Sys2Proof.core.run k t := by
  have h' : Sys2Proof.core.step s = .next t := h
  simp [Host.Core.run, h']

end Sys2Proof.Machine
end

