-- ==== Sys2Proof/Laws/PerInstr.lean ====
section
/-! SUPPORT. The family `Table`: the word of every operation matches its row of opcode_table.json. -/

namespace Sys2Proof.Laws.Table

open Sys2Proof

/-- The `mask` of the operation's row of opcode_table.json. -/
def maskOf : Instr → Word
  | .cksum _ => 0xFF00FFFF
  | .encode _ _ => 0xFF0000FF
  | .decode _ _ => 0xFF0000FF
  | .leenc => 0xFFFFFFFF
  | .tx _ _ => 0xFF0000FF
  | .rx _ _ => 0xFF0000FF
  | .txw _ _ => 0xFF0000FF
  | .init => 0xFFFFFFFF
  | .cliff => 0xFFFFFFFF

/-- The `match` of the operation's row of opcode_table.json. -/
def matchOf : Instr → Word
  | .cksum _ => 0x00000001
  | .encode _ _ => 0x00000002
  | .decode _ _ => 0x00000003
  | .leenc => 0x00000004
  | .tx _ _ => 0x00000005
  | .rx _ _ => 0x00000006
  | .txw _ _ => 0x00000007
  | .init => 0x00000008
  | .cliff => 0x00000009

/-- The word of the operation, masked, is the row's match, and its CMD and N stand in bits 15..8 and
23..16 (30_encoding.md R88). -/
def Statement (i : Instr) : Prop :=
  encode i &&& maskOf i = matchOf i ∧ cmdOf (encode i) = i.cmdField ∧ countOf (encode i) = i.nField

theorem or_masked (a b m : Word) : (a ||| b) &&& m = (a &&& m) ||| (b &&& m) := by
  ext i
  simp [Bool.and_or_distrib_right]

theorem count_masked (n : Byte) : n.setWidth 32 <<< 16 &&& 0xFF0000FF = (0 : Word) := by
  revert n; decide

theorem cmd_masked (c : Byte) : c.setWidth 32 <<< 8 &&& 0xFF0000FF = (0 : Word) := by
  revert c; decide

theorem count_masked_wide (n : Byte) : n.setWidth 32 <<< 16 &&& 0xFF00FFFF = (0 : Word) := by
  revert n; decide

/-- The three fields of a word stand apart (R88). -/
theorem fields (n c : Byte) (op : BitVec 4) :
    cmdOf ((n.setWidth 32 <<< 16) ||| (c.setWidth 32 <<< 8) ||| op.setWidth 32) = c ∧
      countOf ((n.setWidth 32 <<< 16) ||| (c.setWidth 32 <<< 8) ||| op.setWidth 32) = n := by
  have h1 : ∀ n : Byte, (n.setWidth 32 <<< 16 : Word).extractLsb' 8 8 = 0 ∧
      (n.setWidth 32 <<< 16 : Word).extractLsb' 16 8 = n := by decide
  have h2 : ∀ c : Byte, (c.setWidth 32 <<< 8 : Word).extractLsb' 8 8 = c ∧
      (c.setWidth 32 <<< 8 : Word).extractLsb' 16 8 = 0 := by decide
  have h3 : ∀ op : BitVec 4, (op.setWidth 32 : Word).extractLsb' 8 8 = 0 ∧
      (op.setWidth 32 : Word).extractLsb' 16 8 = 0 := by decide
  unfold cmdOf countOf
  constructor <;> simp only [BitVec.extractLsb'_or, h1, h2, h3] <;> simp

theorem masked_row (n c : Byte) (op : BitVec 4) :
    ((n.setWidth 32 <<< 16) ||| (c.setWidth 32 <<< 8) ||| op.setWidth 32) &&& 0xFF0000FF =
      (op.setWidth 32 : Word) := by
  have h : ∀ op : BitVec 4, op.setWidth 32 &&& 0xFF0000FF = (op.setWidth 32 : Word) := by decide
  rw [or_masked, or_masked, count_masked, cmd_masked, h]
  simp

theorem cksum (n : Byte) : Statement (.cksum n) := by
  refine ⟨?_, fields n 0 0x1⟩
  simp only [encode, Instr.nField, Instr.cmdField, Instr.op, maskOf, matchOf]
  rw [or_masked, or_masked, count_masked_wide]
  decide

theorem encode (cmd n : Byte) : Statement (.encode cmd n) :=
  ⟨masked_row n cmd 0x2, fields n cmd 0x2⟩

theorem decode (cmd n : Byte) : Statement (.decode cmd n) :=
  ⟨masked_row n cmd 0x3, fields n cmd 0x3⟩

theorem leenc : Statement .leenc := by
  unfold Statement; decide

theorem tx (cmd n : Byte) : Statement (.tx cmd n) :=
  ⟨masked_row n cmd 0x5, fields n cmd 0x5⟩

theorem rx (cmd n : Byte) : Statement (.rx cmd n) :=
  ⟨masked_row n cmd 0x6, fields n cmd 0x6⟩

theorem txw (cmd n : Byte) : Statement (.txw cmd n) :=
  ⟨masked_row n cmd 0x7, fields n cmd 0x7⟩

theorem init : Statement .init := by
  unfold Statement; decide

theorem cliff : Statement .cliff := by
  unfold Statement; decide

end Sys2Proof.Laws.Table
end

