-- ==== Sys2Proof/Tests/Slice0.lean ====
section
/-! SUPPORT. The model's own tests. Expected words, bytes and answers come from spec/95_test_vectors.md
(its section is named beside each) or, for the witnesses, are states that meet a statement's hypotheses. -/

set_option maxRecDepth 20000

namespace Sys2Proof.Tests

open Sys2Proof Sys2Proof.Machine

/-! ## Small states -/

/-- The machine after reset with a request on the port. -/
def offer (w : Word) (bytes : List Byte) (v : Word) : State :=
  { State.reset with req := { valid := true, word := w, bytes := bytes, value := v } }

/-- A state that takes the answer `a` to the transaction `r` in `p`. -/
def busState (p : Phase) (r : BusReq) (a : BusAnswer) : State :=
  { State.reset with st := p, bus := some r, busIn := some { answer := a } }

/-- A state that takes DONE in `p`. -/
def delayState (p : Phase) (ms : Half) : State :=
  { State.reset with st := p, timer := some ms, timerIn := some {} }

/-- The answer is a next state with `f`. -/
def nextIs (o : Outcome) (f : State → Bool) : Bool :=
  match o with
  | .next t => f t
  | .fault _ => false
  | .refused _ => false

/-- The operation finishes with these values on the response port. -/
def replies (o : Outcome) (r : Result) (b : List Byte) (v : Word) : Bool :=
  nextIs o fun t =>
    t.rsp.valid && t.rsp.result == r && t.rsp.n.toNat == b.length && t.rsp.bytes == b && t.rsp.value == v

/-! ## Decoding: words of L2 and L3, one for each operation -/

theorem test_decode_cksum : decode 16 0x00050001 = .ok (.cksum 5) := by decide
theorem test_decode_encode : decode 16 0x00030102 = .ok (.encode 0x01 3) := by decide
theorem test_decode_decode : decode 16 0x00042003 = .ok (.decode 0x20 4) := by decide
theorem test_decode_leenc : decode 16 0x00000004 = .ok .leenc := by decide
theorem test_decode_tx : decode 16 0x00100305 = .ok (.tx 0x03 16) := by decide
theorem test_decode_rx : decode 16 0x00002306 = .ok (.rx 0x23 0) := by decide
theorem test_decode_txw : decode 16 0x00000407 = .ok (.txw 0x04 0) := by decide
theorem test_decode_init : decode 16 0x00000008 = .ok .init := by decide
theorem test_decode_cliff : decode 16 0x00000009 = .ok .cliff := by decide

/-- The words of "Refused requests (R91)". -/
theorem test_refused_words :
    [0x00000000, 0x0000000A, 0x0000000F, 0x00000011, 0x01000005, 0x00000101, 0x00010004, 0x00000108,
      0x00010009, 0x00110305].map (decode 16) =
    [.error .reservedOp, .error .reservedOp, .error .reservedOp, .error .reservedLow,
      .error .reservedHigh, .error .fieldNotZero, .error .fieldNotZero, .error .fieldNotZero,
      .error .fieldNotZero, .error .tooManyOperands] := by decide

theorem test_encode_words :
    encode (.encode 0x01 3) = 0x00030102 ∧ encode (.decode 0x20 4) = 0x00042003 ∧
    encode .cliff = 0x00000009 := by decide

/-! ## Well-formedness and the configuration: a term that each check refuses -/

theorem test_wf_limit : Instr.wf 16 (.tx 3 16) = true ∧ Instr.wf 16 (.tx 3 17) = false := by decide
theorem test_wf_each_count :
    Instr.wf 16 (.cksum 17) = false ∧ Instr.wf 16 (.encode 0 17) = false ∧
    Instr.wf 16 (.decode 0 17) = false ∧ Instr.wf 16 (.rx 0 17) = false ∧
    Instr.wf 16 (.txw 0 17) = false ∧ Instr.wf 16 .leenc = true := by decide
theorem test_config_legal : Config.testcfg.legal = true := by decide
theorem test_config_capacity :
    ({ Config.testcfg with maxOperand := 4 } : Config).capacityLegal = false ∧
    ({ Config.testcfg with maxOperand := 254 } : Config).capacityLegal = false := by decide
theorem test_config_length :
    ({ Config.testcfg with maxOperand := 253, lenBias := 3 } : Config).lengthLegal = false := by decide
theorem test_config_mask :
    ({ Config.testcfg with cliffMask := 0 } : Config).maskLegal = false ∧
    ({ Config.testcfg with cliffMask := 0x81 } : Config).maskLegal = false := by decide
theorem test_config_ids :
    ({ Config.testcfg with cmd := { Config.testcfg.cmd with version := 0x20 } } : Config).idsLegal =
      false := by decide
theorem test_config_codes :
    ({ Config.testcfg with code := { eCliff := 0x08 } } : Config).codesLegal = false ∧
    ({ Config.testcfg with code := { eRxCommand := 0x09 } } : Config).codesLegal = false := by decide
theorem test_config_start_key :
    ({ Config.testcfg with startKeyParams := List.replicate 17 0 } : Config).startKeyLegal = false := by
  decide
theorem test_config_rx_len :
    ({ Config.testcfg with rxLenOther := 5 } : Config).rxLenLegal = false ∧
    ({ Config.testcfg with rxLenDistance := 4 } : Config).rxLenLegal = false := by decide
theorem test_illegal_configuration_is_refused :
    (match step { State.reset with cfg := { Config.testcfg with maxOperand := 4 } } with
      | .refused r => r == .illegalConfiguration
      | _ => false) = true := by decide

/-! ## One step of each operation -/

/-- L2 CKSUM, S1. -/
theorem test_cksum : replies (step (offer 0x00050001 [0x04, 0x01, 0x01, 0x32, 0x00] 0)) .ok [0xC7] 199 := by
  decide
/-- L2 CKSUM, sum 510. -/
theorem test_cksum_wraps : replies (step (offer 0x00020001 [0xFF, 0xFF] 0)) .ok [0x01] 1 := by decide
/-- L2 ENCODE. -/
theorem test_encode :
    replies (step (offer 0x00030102 [0x01, 0x32, 0x00] 0)) .ok [0x05, 0x01, 0x01, 0x32, 0x00, 0xC6] 0 := by
  decide
/-- L2 ENCODE. -/
theorem test_encode_no_params : replies (step (offer 0x00002002 [] 0)) .ok [0x02, 0x20, 0xDD] 0 := by
  decide
/-- L2 DECODE, front distance. -/
theorem test_decode_distance :
    nextIs (step (offer 0x00051103 [0x04, 0x11, 0x88, 0x13, 0x4F] 0)) (fun t =>
      t.rsp.bytes == [0x88, 0x13] && t.rsp.value == 0 && t.status.dist == 5000 &&
        t.status.err == 0) := by
  decide
/-- L2 DECODE, wrong id and wrong checksum: checksum first. -/
theorem test_decode_checksum_first :
    replies (step (offer 0x00042003 [0x03, 0x21, 0x00, 0xDC] 0)) .ok [] 0x06 := by decide
/-- L2 LEENC. -/
theorem test_leenc :
    replies (step (offer 0x00000004 [] 0x12345678)) .ok [0x78, 0x56, 0x34, 0x12] 0x12345678 := by decide
/-- L2 LEENC, an inner zero byte is kept. -/
theorem test_leenc_inner_zero : replies (step (offer 0x00000004 [] 65536)) .ok [0, 0, 1] 65536 := by decide
/-- T1 step 1. -/
theorem test_tx :
    nextIs (step (offer 0x00000305 [] 0)) (fun t =>
      t.st == .eWr && t.bus == some (.write 0x10 [0x02, 0x03, 0xFA]) && !t.rsp.valid) := by decide
/-- T4 step 4: the poll reads E_UNKNOWN_COMMAND. -/
theorem test_tx_error_backs_off :
    nextIs (step (busState .pRd (.read 0x10 4) (.data [0x03, 0x20, 0x03, 0xD9]))) (fun t =>
      t.st == .backoff && t.timer == some 20 && t.status.err == 3 && t.outcome == 3 &&
        t.attempts == 1) := by
  decide
/-- T8 step 1: RX of the version. -/
theorem test_rx :
    nextIs (step (offer 0x00002306 [] 0)) (fun t =>
      t.st == .eWr && t.run.edir == .rx && t.bus == some (.write 0x10 [0x02, 0x23, 0xDA])) := by decide
/-- T15: RX of the front distance reads five bytes. -/
theorem test_rx_distance_length :
    nextIs (step { busState .eWr (.write 0x10 [0x02, 0x11, 0xEC]) .ok with
      run := { ecmd := 0x11, edir := .rx, eframe := [0x02, 0x11, 0xEC], eframeN := 3 } }) (fun t =>
        t.st == .eRd && t.bus == some (.read 0x10 5)) := by decide
/-- W1 step 1. -/
theorem test_txw :
    nextIs (step (offer 0x00000407 [] 0)) (fun t =>
      t.st == .eWr && t.seq == .txwTx && t.bus == some (.write 0x10 [0x02, 0x04, 0xF9])) := by decide
/-- W1: the clean end of the actuation run starts the completion read. -/
theorem test_txw_completion_read :
    nextIs (step { busState .pRd (.read 0x10 4) (.data [0x03, 0x20, 0x00, 0xDC]) with seq := .txwTx })
      (fun t =>
        t.st == .eWr && t.seq == .txwCmpl && t.bus == some (.write 0x10 [0x02, 0x21, 0xDC])) := by decide
/-- INIT of the L2 traces: retries in bits 31..16, delay in bits 15..0. -/
theorem test_init :
    nextIs (step (offer 0x00000008 [] 0x00030064)) (fun t =>
      t.st == .iScan && t.bus == some .scan && t.init.retries == 3 && t.init.delayMs == 100) := by decide
/-- The scan shows P_DEV_ADDR: the start-key frame `[02 30 CD]` is written. -/
theorem test_init_start_key :
    nextIs (step (busState .iScan .scan (.devices [0x22, 0x10]))) (fun t =>
      t.st == .iWr && t.bus == some (.write 0x10 [0x02, 0x30, 0xCD])) := by decide
/-- K1 step 1. -/
theorem test_cliff :
    nextIs (step (offer 0x00000009 [] 0)) (fun t =>
      t.st == .eWr && t.seq == .cliff && t.bus == some (.write 0x10 [0x02, 0x10, 0xED])) := by decide
/-- S5, sequence 2: the third non-detection clears the filtered status. -/
theorem test_cliff_third_clear :
    nextIs (step { busState .pRd (.read 0x10 4) (.data [0x03, 0x20, 0x00, 0xDC]) with
      seq := .cliff
      status := { State.reset.status with cliffFilt := true, cliffCnt := 2 } }) (fun t =>
        t.st == .idle && t.rsp.value == 0 && t.status.cliffCnt == 3 && !t.status.cliffFilt) := by decide

/-- P_LE_WIDTH = 16: the low 16 bits are split (log 16), `rsp_value` is REQ_VALUE. -/
theorem test_leenc_width :
    replies (step { offer 0x00000004 [] 0x12345678 with cfg := { Config.testcfg with leWidth := 16 } }) .ok
      [0x78, 0x56] 0x12345678 := by decide

/-! ## The codes of 10_state.md R42, R44, R46 and 30_encoding.md R92 -/

theorem test_state_codes :
    ([.idle, .eWr, .eRd, .pWr, .pRd, .backoff, .lWait, .lWr, .lRd, .lPause, .restart, .cWait, .iScan, .iWr,
      .iWait].map Phase.code) = [0, 1, 2, 3, 4, 5, 6, 7, 8, 9, 10, 11, 12, 13, 14] := by decide
theorem test_result_codes :
    ([.ok, .abandoned, .fault, .initFailed, .refused].map Result.code) = [0, 1, 2, 3, 4] := by decide
theorem test_seq_and_dir_codes :
    ([.plain, .txwTx, .txwCmpl, .cliff].map Seq.code) = [0, 1, 2, 3] ∧
    ([.tx, .rx].map Dir.code) = [0, 1] := by decide

/-! ## The host's two entry points -/

theorem test_table_word : decodeTableWord 32 0x00000407 = some (.txw 0x04 0) := by decide
theorem test_fetch_word :
    nextIs (step (State.reset.withFetchWord 32 0x00000009)) (fun t => t.seq == .cliff) = true := by
  decide

/-! ## Assembly: S3, S6 and 30_encoding.md R98 -/

theorem test_move_zero :
    Pseudo.expand .testcfg (.move 1 50 0) = .tx 0x01 [0x01, 0x32] := by decide
theorem test_move_distance :
    Pseudo.expand .testcfg (.move 1 50 5000) = .txw 0x01 [0x01, 0x32, 0x88, 0x13] := by decide
theorem test_clamp : clampSpeed (-5) = 1 ∧ clampSpeed 250 = 100 := by decide

/-! ## Witnesses: a state and operands that meet each statement's hypotheses -/

theorem offer_offered (w : Word) (b : List Byte) (v : Word) : Offered (offer w b v) :=
  ⟨test_config_legal, rfl, rfl, rfl⟩

theorem busState_answered (p : Phase) (r : BusReq) (a : BusAnswer) (h : r.admits a = true) :
    BusAnswered (busState p r a) a :=
  ⟨test_config_legal, rfl, rfl, r, rfl, h⟩

theorem delayState_answered (p : Phase) (ms : Half) : DelayAnswered (delayState p ms) :=
  ⟨test_config_legal, rfl, rfl, rfl⟩

/-- DecodeOfEncodeGivesTheInstruction, at the largest count. -/
theorem test_witness_decode_of_encode : Instr.wf 253 (.txw 0xFF 253) = true := by decide
/-- AcceptedWordIsTheEncodingOfItsInstruction. -/
theorem test_witness_accepted_word : decode 253 0x00FDFF07 = .ok (.txw 0xFF 253) := by decide
/-- RefusedRequestFinishesAtOnce: each condition of R91 at its boundary, and the second clause. -/
theorem test_witness_refused :
    (∀ w ∈ ([0x0, 0xA, 0x11, 0x01000005, 0x00110305, 0x101, 0x10004, 0x108, 0x10009] : List Word),
      Offered (offer w [] 0) ∧ (offer w [] 0).seq = .plain ∧
        RefusedWord (offer w [] 0).cfg.maxOperand (offer w [] 0).req.word) ∧
    (∀ w ∈ ([0x1, 0x9, 0x00100305] : List Word),
      Offered (offer w [] 0) ∧ (offer w [] 0).seq = .plain ∧
        ¬ RefusedWord (offer w [] 0).cfg.maxOperand (offer w [] 0).req.word) := by
  have h : (∀ w ∈ ([0x0, 0xA, 0x11, 0x01000005, 0x00110305, 0x101, 0x10004, 0x108, 0x10009] :
      List Word), RefusedWord 16 w) ∧
      ∀ w ∈ ([0x1, 0x9, 0x00100305] : List Word), ¬ RefusedWord 16 w := by
    constructor <;> simp [RefusedWord]
  exact ⟨fun w hw => ⟨offer_offered _ _ _, rfl, h.1 w hw⟩,
    fun w hw => ⟨offer_offered _ _ _, rfl, h.2 w hw⟩⟩
/-- StepRunsTheDecodedInstruction. -/
theorem test_witness_step_runs :
    Offered (offer 0x00000009 [] 0) ∧
      decode (offer 0x00000009 [] 0).cfg.maxOperand (offer 0x00000009 [] 0).req.word = .ok .cliff :=
  ⟨offer_offered _ _ _, by decide⟩
/-- LeencReturnsTheMinimalLittleEndianBytes, the clause for the spec's width. -/
theorem test_witness_leenc : 32 ≤ Config.testcfg.leWidth := by decide
/-- AssembledLineDecodesToItsOperation: the longest list and the empty one. -/
theorem test_witness_assembled :
    (List.replicate 253 (0 : Byte)).length ≤ 253 ∧
    (253 : Byte).toNat = (List.replicate 253 (0 : Byte)).length ∧ ([] : List Byte).length ≤ 0 ∧
    (0 : Byte).toNat = ([] : List Byte).length := by decide
/-- ChecksumLaws, laws 1 and 2. -/
theorem test_witness_checksum_laws :
    byteSum [0x80, 0x80] % 256 = byteSum [] % 256 ∧ [0x12, 0x34].Perm [0x34, 0x12] := by decide
/-- EncodeReturnsTheOutboundFrame: the last N for which `rsp_n` is stated. -/
theorem test_witness_encode_count : (252 : Byte).toNat ≤ 252 ∧ ¬ (253 : Byte).toNat ≤ 252 := by decide

/-- The frames of section 0 and of L2 DECODE are good frames of their ids. -/
theorem test_good_frames :
    GoodFrame .testcfg [0x03, 0x20, 0x09, 0xD3] 0x20 ∧ GoodFrame .testcfg [0x03, 0x21, 0x02, 0xD9] 0x21 ∧
    GoodFrame .testcfg [0x03, 0x10, 0x80, 0x6C] 0x10 ∧
    GoodFrame .testcfg [0x04, 0x11, 0x88, 0x13, 0x4F] 0x11 ∧
    GoodFrame .testcfg [0x03, 0x23, 0x07, 0xD2] 0x23 ∧ GoodFrame .testcfg [0x03, 0x22, 0xA5, 0x35] 0x22 ∧
    GoodFrame .testcfg [0x03, 0x99, 0x00, 0x63] 0x99 := by
  unfold GoodFrame; decide
/-- The rejected frames of L2 DECODE, one for each failure and the front-distance one. -/
theorem test_bad_frames :
    BadFrame .testcfg [0x03, 0x20, 0x00] 0x20 0x05 ∧ BadFrame .testcfg [0x03, 0x20, 0x00, 0xDD] 0x20 0x06 ∧
    BadFrame .testcfg [0x03, 0x21, 0x00, 0xDB] 0x20 0x07 ∧
    BadFrame .testcfg [0x03, 0x11, 0x88, 0x63] 0x11 0x05 := by
  unfold BadFrame; decide

/-- DecodeOfAGoodFrameWritesItsRegisters: one frame for each clause. -/
theorem test_witness_decode_good :
    Config.testcfg.legal = true ∧
    (∀ e ∈ ([(0x20, [0x03, 0x20, 0x09, 0xD3]), (0x21, [0x03, 0x21, 0x02, 0xD9]),
        (0x10, [0x03, 0x10, 0x80, 0x6C]), (0x11, [0x04, 0x11, 0x88, 0x13, 0x4F]),
        (0x23, [0x03, 0x23, 0x07, 0xD2]), (0x22, [0x03, 0x22, 0xA5, 0x35]),
        (0x99, [0x03, 0x99, 0x00, 0x63])] : List (Byte × List Byte)),
      GoodFrame .testcfg (portBytes e.2.length (offer 0 e.2 0)) e.1) := by
  unfold GoodFrame; decide
/-- DecodeOfABadFrameReportsTheFirstFailure. -/
theorem test_witness_decode_bad :
    BadFrame .testcfg (portBytes 4 (offer 0 [0x03, 0x20, 0x00, 0xDD] 0)) 0x20 0x06 := by
  unfold BadFrame; decide
/-- DecodeOfEncodedFrameRecoversTheParameters and DecoderIgnoresTheLengthByte, at the limits 1 and 2. -/
theorem test_witness_recovers :
    (1 ≤ [(0x07 : Byte)].length ∧ ((0x23 : Byte) = Config.testcfg.cmd.frontDistance → 2 ≤ 1)) ∧
    (1 ≤ [(0x88 : Byte), 0x13].length ∧ ((0x11 : Byte) = Config.testcfg.cmd.frontDistance → 2 ≤ 2)) ∧
    ¬ (1 ≤ [(0x88 : Byte)].length ∧ ((0x11 : Byte) = Config.testcfg.cmd.frontDistance → 2 ≤ 1)) := by
  decide
/-- EverySingleByteErrorIsDetected. -/
theorem test_witness_single_byte_error :
    decodeFrame .testcfg [0x03, 0x20, 0x00, 0xDC] 0x20 = .good [0x00] ∧
      ([0x03, 0x20, 0x00, 0xDC] : List Byte)[1]? = some 0x20 ∧ (0x21 : Byte) ≠ 0x20 := by decide
/-- InitScansOrFailsAtOnce, both clauses. -/
theorem test_witness_init :
    (offer 8 [] 0x00010032).req.value.toNat = (1 : Half).toNat * 65536 + (0x32 : Half).toNat ∧
    (offer 8 [] 0x00000032).req.value.toNat = (0 : Half).toNat * 65536 + (0x32 : Half).toNat := by decide

/-- AnsweredWritesAreFollowedByTheNextTransaction: the states of its three clauses. -/
theorem test_witness_answered_writes :
    BusAnswered (busState .eWr (.write 0x10 []) .ok) .ok ∧
    (busState .eWr (.write 0x10 []) .ok).run.edir = .tx ∧
    BusAnswered { busState .eWr (.write 0x10 []) .ok with
      run := { ecmd := 0x11, edir := .rx, eframe := [], eframeN := 0 } } .ok ∧
    BusAnswered (busState .pWr (.write 0x10 []) .ok) .ok :=
  ⟨busState_answered _ _ _ rfl, rfl, ⟨by decide, rfl, rfl, _, rfl, rfl⟩, busState_answered _ _ _ rfl⟩
/-- PrimaryReadIsDecodedAndThePollFollows: a rejected and an accepted frame for ECMD = 0x23. -/
theorem test_witness_primary_read :
    BusAnswered { busState .eRd (.read 0x10 4) (.data [0x03, 0x23, 0x07, 0xD3]) with
      run := { ecmd := 0x23, edir := .rx, eframe := [], eframeN := 0 } } (.data [0x03, 0x23, 0x07, 0xD3]) ∧
    BadFrame .testcfg [0x03, 0x23, 0x07, 0xD3] 0x23 0x06 ∧
    BusAnswered { busState .eRd (.read 0x10 4) (.data [0x03, 0x23, 0x07, 0xD2]) with
      run := { ecmd := 0x23, edir := .rx, eframe := [], eframeN := 0 } } (.data [0x03, 0x23, 0x07, 0xD2]) ∧
    GoodFrame .testcfg [0x03, 0x23, 0x07, 0xD2] 0x23 := by
  refine ⟨⟨by decide, rfl, rfl, _, rfl, rfl⟩, ?_, ⟨by decide, rfl, rfl, _, rfl, rfl⟩, ?_⟩
  · unfold BadFrame; decide
  · unfold GoodFrame; decide
/-- AbsentAnswerCountsAndBacksOff: ABSENT is an answer in each of the four states. -/
theorem test_witness_absent :
    ∀ p ∈ [Phase.eWr, .eRd, .pWr, .pRd], p.inAttempt = true ∧
      BusAnswered (busState p (.write 0x10 []) .absent) .absent := by
  intro p hp
  refine ⟨?_, busState_answered p _ _ rfl⟩
  revert p; decide
/-- FaultAnswerEndsTheOperation: FAULT is an answer in each of its states. -/
theorem test_witness_fault :
    ∀ p ∈ [Phase.eWr, .eRd, .pWr, .pRd, .lWr, .lRd, .iScan, .iWr],
      BusAnswered (busState p .scan .fault) .fault :=
  fun p _ => busState_answered p _ _ rfl

/-- The error responses of section 0. -/
theorem test_poll_frames :
    PollReads .testcfg [0x03, 0x20, 0x00, 0xDC] 0x00 ∧ PollReads .testcfg [0x03, 0x20, 0x03, 0xD9] 0x03 ∧
    PollReads .testcfg [0x03, 0x20, 0x08, 0xD4] 0x08 ∧ PollReads .testcfg [0x03, 0x20, 0x09, 0xD3] 0x09 :=
  ⟨⟨3, by decide⟩, ⟨3, by decide⟩, ⟨3, by decide⟩, ⟨3, by decide⟩⟩

/-- A poll frame arrives in P_RD. -/
theorem pollState_answered (raw : List Byte) (h : decide (raw.length ≤ 4) = true) :
    BusAnswered (busState .pRd (.read 0x10 4) (.data raw)) (.data raw) :=
  busState_answered _ _ _ h

/-- FailedAttemptIsRecordedAndBacksOff: the three clauses. -/
theorem test_witness_failed_attempt :
    BusAnswered (busState .pRd (.read 0x10 4) (.data [0x03, 0x20, 0x00, 0xDD]))
      (.data [0x03, 0x20, 0x00, 0xDD]) ∧
    Config.testcfg.protocolFailCounts = true ∧ BadFrame .testcfg [0x03, 0x20, 0x00, 0xDD] 0x20 0x06 ∧
    (0x03 : Byte) ∉ [Config.testcfg.code.eNone, Config.testcfg.code.eStartKey,
      Config.testcfg.code.eCliff] ∧
    BusAnswered (busState .pRd (.read 0x10 4) (.data [0x03, 0x20, 0x03, 0xD9]))
      (.data [0x03, 0x20, 0x03, 0xD9]) ∧
    BusAnswered { busState .pRd (.read 0x10 4) (.data [0x03, 0x20, 0x00, 0xDC]) with pfail := 0x07 }
      (.data [0x03, 0x20, 0x00, 0xDC]) ∧
    PfailLocal { busState .pRd (.read 0x10 4) (.data [0x03, 0x20, 0x00, 0xDC]) with pfail := 0x07 } := by
  refine ⟨pollState_answered _ rfl, rfl, ?_, by decide, pollState_answered _ rfl,
    ⟨by decide, rfl, rfl, _, rfl, rfl⟩, ?_⟩
  · unfold BadFrame; decide
  · unfold PfailLocal; decide
/-- FailedAttemptIsRecordedAndBacksOff, StartKeyReportEntersRestart and CliffReportEntersTheLockout with
protocol failures not counted: a poll frame that fails while ERR holds 0x03, 0x08 or 0x09. -/
theorem test_witness_stale_error :
    (∀ b : Byte, BusAnswered { busState .pRd (.read 0x10 4) (.data [0x03, 0x20, 0x00, 0xDD]) with
      cfg := { Config.testcfg with protocolFailCounts := false }
      status := { State.reset.status with err := b } } (.data [0x03, 0x20, 0x00, 0xDD])) ∧
    BadFrame { Config.testcfg with protocolFailCounts := false } [0x03, 0x20, 0x00, 0xDD] 0x20 0x06 ∧
    (0x03 : Byte) ∉ [Config.testcfg.code.eNone, Config.testcfg.code.eStartKey,
      Config.testcfg.code.eCliff] ∧
    Config.testcfg.code.eStartKey = 0x08 ∧ Config.testcfg.code.eCliff = 0x09 := by
  have hc : ({ Config.testcfg with protocolFailCounts := false } : Config).legal = true := by decide
  refine ⟨fun b => ⟨hc, rfl, rfl, _, rfl, rfl⟩, ?_, by decide, rfl, rfl⟩
  unfold BadFrame; decide
/-- StartKeyReportEntersRestart and CliffReportEntersTheLockout. -/
theorem test_witness_interlock_reports :
    BusAnswered (busState .pRd (.read 0x10 4) (.data [0x03, 0x20, 0x08, 0xD4]))
      (.data [0x03, 0x20, 0x08, 0xD4]) ∧
    BusAnswered (busState .pRd (.read 0x10 4) (.data [0x03, 0x20, 0x09, 0xD3]))
      (.data [0x03, 0x20, 0x09, 0xD3]) :=
  ⟨pollState_answered _ rfl, pollState_answered _ rfl⟩
/-- CleanPollEndsTheRun: PFAIL = E_NONE, and protocol failures not counted with ERR = E_NONE. -/
theorem test_witness_clean_poll :
    (busState .pRd (.read 0x10 4) (.data [0x03, 0x20, 0x00, 0xDC])).pfail = Config.testcfg.code.eNone ∧
    BusAnswered { busState .pRd (.read 0x10 4) (.data [0x03, 0x20, 0x00, 0xDD]) with
      cfg := { Config.testcfg with protocolFailCounts := false } } (.data [0x03, 0x20, 0x00, 0xDD]) ∧
    (busState .pRd (.read 0x10 4) (.data [0x03, 0x20, 0x00, 0xDD])).status.err =
      Config.testcfg.code.eNone :=
  ⟨rfl, ⟨by decide, rfl, rfl, _, rfl, rfl⟩, rfl⟩
/-- BackoffResendsOrAbandons: the last attempt that is made, and the first that is not. -/
theorem test_witness_backoff :
    DelayAnswered { delayState .backoff 20 with attempts := 3 } ∧
    (3 : BitVec 9).toNat ≤ Config.testcfg.maxRetries.toNat ∧
    Config.testcfg.maxRetries.toNat < (4 : BitVec 9).toNat := by
  exact ⟨⟨test_config_legal, rfl, rfl, rfl⟩, by decide, by decide⟩
/-- LockoutRepollsUntilTheCliffClears: the states of its clauses, with and without a pause. -/
theorem test_witness_lockout :
    DelayAnswered (delayState .lWait 20) ∧ BusAnswered (busState .lWr (.write 0x10 []) .ok) .ok ∧
    BusAnswered (busState .lWr (.write 0x10 []) .absent) .absent ∧
    BusAnswered (busState .lRd (.read 0x10 4) .absent) .absent ∧
    BusAnswered { busState .lRd (.read 0x10 4) (.data [0x01]) with
      status := { State.reset.status with err := 0x09 } } (.data [0x01]) ∧
    BusAnswered (busState .lRd (.read 0x10 4) (.data [0x03, 0x20, 0x00, 0xDC]))
      (.data [0x03, 0x20, 0x00, 0xDC]) ∧
    BusAnswered { busState .lRd (.read 0x10 4) (.data [0x03, 0x20, 0x00, 0xDC]) with
      cfg := { Config.testcfg with cliffClearPauseMs := 50 } } (.data [0x03, 0x20, 0x00, 0xDC]) ∧
    DelayAnswered (delayState .lPause 50) :=
  ⟨delayState_answered _ _, busState_answered _ _ _ rfl, busState_answered _ _ _ rfl,
    busState_answered _ _ _ rfl, ⟨by decide, rfl, rfl, _, rfl, rfl⟩, busState_answered _ _ _ rfl,
    ⟨by decide, rfl, rfl, _, rfl, rfl⟩, delayState_answered _ _⟩
/-- RestartTakesNoStep, both clauses, and NoStepWithoutTheOutstandingAnswer. -/
theorem test_witness_restart :
    Config.testcfg.legal = true ∧ ({ State.reset with st := .restart } : State).rst = false ∧
    ({ State.reset with st := .restart } : State).script = [] ∧
    ({ State.reset with st := .restart, script := [{}] } : State).script ≠ [] := by decide
/-- NoStepWithoutTheOutstandingAnswer: no answer, and a late one, on each port. -/
theorem test_witness_no_answer :
    ({ State.reset with st := .eWr, bus := some .scan } : State).busIn = none ∧
    ({ State.reset with st := .eWr, bus := some .scan } : State).timer = none ∧
    (∃ a, ({ State.reset with
      st := .eWr, bus := some .scan, busIn := some { answer := .ok, late := true } } : State).busIn =
        some { answer := a, late := true }) ∧
    ({ State.reset with st := .backoff, timer := some 20, timerIn := some { late := true } } :
      State).timerIn = some { late := true } :=
  ⟨rfl, rfl, ⟨.ok, rfl⟩, rfl⟩
/-- ResetGivesEveryRegisterItsResetValue: reset against an answer and a request at once. -/
theorem test_witness_reset :
    ({ busState .eWr (.write 0x10 []) .ok with rst := true } : State).cfg.legal = true ∧
    ({ busState .eWr (.write 0x10 []) .ok with rst := true } : State).rst = true := by decide
/-- A state at the end of a run of `q` with CMPL and CLIFF_RAW as given. -/
def endState (q : Seq) (cmpl : Byte) (raw : Bool) : State :=
  { State.reset with seq := q, status := { State.reset.status with cmpl := cmpl, cliffRaw := raw } }

/-- RunEndContinuesBySeq: a state for each clause. -/
theorem test_witness_run_end :
    (endState .plain 0 false).seq = .plain ∧ (endState .txwTx 0 false).seq = .txwTx ∧
    ((endState .txwCmpl 1 false).seq = .txwCmpl ∧ (endState .txwCmpl 1 false).status.cmpl ≠ 0) ∧
    ((endState .txwCmpl 0 false).seq = .txwCmpl ∧ (endState .txwCmpl 0 false).status.cmpl = 0) ∧
    ((endState .cliff 0 true).seq = .cliff ∧ (endState .cliff 0 true).status.cliffRaw = true) ∧
    ((endState .cliff 0 false).seq = .cliff ∧ (endState .cliff 0 false).status.cliffRaw = false) := by
  decide
/-- CompletionDelayStartsTheNextPoll. -/
theorem test_witness_completion_delay :
    (delayState .cWait 10).st = .cWait ∧ DelayAnswered (delayState .cWait 10) :=
  ⟨rfl, delayState_answered _ _⟩
/-- InitAttemptFollowsTheAnswers: a scan with and without P_DEV_ADDR, the two write answers, and the two
ends of the delay. -/
theorem test_witness_init_attempt :
    BusAnswered (busState .iScan .scan (.devices [0x10])) (.devices [0x10]) ∧
    Config.testcfg.devAddr ∈ [(0x10 : BusAddr)] ∧ Config.testcfg.devAddr ∉ ([] : List BusAddr) ∧
    BusAnswered (busState .iScan .scan (.devices [])) (.devices []) ∧
    BusAnswered (busState .iWr (.write 0x10 []) .ok) .ok ∧
    BusAnswered (busState .iWr (.write 0x10 []) .absent) .absent ∧
    DelayAnswered { delayState .iWait 5 with init := { count := 0, retries := 2, delayMs := 5 } } ∧
    DelayAnswered { delayState .iWait 5 with init := { count := 1, retries := 2, delayMs := 5 } } :=
  ⟨busState_answered _ _ _ rfl, by decide, by decide, busState_answered _ _ _ rfl,
    busState_answered _ _ _ rfl, busState_answered _ _ _ rfl, ⟨test_config_legal, rfl, rfl, rfl⟩,
    ⟨test_config_legal, rfl, rfl, rfl⟩⟩
/-- FilteredCliffClearsAtTheThirdNonDetection. -/
theorem test_witness_filter :
    State.reset.cfg.cliffClearCount = 3 ∧ State.reset.status.cliffFilt = false := by decide
/-- ReadPortShowsTheRegisterMap: the first and the last address that read 0. -/
theorem test_witness_read_port : 0xB ≤ (0xB : BitVec 4).toNat ∧ 0xB ≤ (0xF : BitVec 4).toNat := by decide

/-- StatusRegistersChangeOnlyByDecodedFrames: each status register changes in some step. -/
theorem test_witness_status_changes :
    nextIs (step (busState .pRd (.read 0x10 4) (.data [0x03, 0x20, 0x03, 0xD9])))
      (fun t => t.status.err != State.reset.status.err) ∧
    nextIs (step (offer 0x00042103 [0x03, 0x21, 0x02, 0xD9] 0))
      (fun t => t.status.cmpl != State.reset.status.cmpl) ∧
    nextIs (step (offer 0x00041003 [0x03, 0x10, 0x80, 0x6C] 0))
      (fun t => t.status.line != State.reset.status.line && t.status.cliffRaw) ∧
    nextIs (step (offer 0x00051103 [0x04, 0x11, 0x88, 0x13, 0x4F] 0))
      (fun t => t.status.dist != State.reset.status.dist) ∧
    nextIs (step (offer 0x00042303 [0x03, 0x23, 0x07, 0xD2] 0))
      (fun t => t.status.version != State.reset.status.version) ∧
    nextIs (step (offer 0x00042203 [0x03, 0x22, 0xA5, 0x35] 0))
      (fun t => t.status.resetAck != State.reset.status.resetAck) ∧
    nextIs (step { busState .pRd (.read 0x10 4) (.data [0x03, 0x20, 0x00, 0xDC]) with seq := .cliff })
      (fun t => t.status.cliffCnt != State.reset.status.cliffCnt) := by decide
/-- ConfigurationNeverChanges and BusyBlockIgnoresTheRequestPort: a busy state with a next state, one that
faults and one that refuses. -/
theorem test_witness_busy :
    nextIs (step (busState .eWr (.write 0x10 []) .ok)) (fun t => t.st == .pWr) = true ∧
    step { State.reset with st := .restart } = .fault .restartHeld ∧
    step (busState .eWr (.write 0x10 []) (.data [])) = .refused .answerOutsideContract :=
  ⟨by decide, rfl, rfl⟩

/-- A state of a TX run in P_WR that meets every part of `Good` and takes the answer OK. -/
def goodState : State :=
  { busState .pWr (.write 0x10 [0x02, 0x20, 0xDD]) .ok with
    run := { ecmd := 0x03, edir := .tx, eframe := [0x02, 0x03, 0xFA], eframeN := 3 } }

/-- StepKeepsGoodStates, the three single invariants, and EveryAnswerBringsTheRunNearerItsEnd. -/
theorem test_witness_good :
    Good goodState ∧ BusAnswered goodState .ok ∧ goodState.seq = .plain ∧
      nextIs (step goodState) (fun t => t.st.inAttempt) = true := by
  refine ⟨⟨test_config_legal, ⟨by decide, rfl⟩, ?_, ⟨by decide, by decide⟩, ?_, ?_, ⟨by decide, fun _ =>
    ⟨rfl, [], by decide⟩⟩, ⟨by decide, by decide⟩, by unfold DebounceFits; decide⟩,
    ⟨test_config_legal, rfl, rfl, _, rfl, rfl⟩, rfl, by decide⟩
  · unfold RetryBounded; decide
  · unfold InterlockFits PfailLocal; decide
  · unfold SequenceFits; decide
/-- ResetStateIsGood: a legal configuration besides TESTCFG. -/
theorem test_witness_reset_good : ({ Config.testcfg with maxRetries := 0 } : Config).legal = true := by
  decide
/-- EveryAnswerBringsTheRunNearerItsEnd: the end of TXW's actuation run, and the second and third clauses. -/
theorem test_witness_run_starts :
    nextIs (step { busState .pRd (.read 0x10 4) (.data [0x03, 0x20, 0x00, 0xDC]) with seq := .txwTx })
      (fun t => t.st.inAttempt && t.seq == .txwCmpl && stepsLeft t == 20) = true ∧
    nextIs (exec (.tx 3 0) State.reset) (fun t => stepsLeft t == 20) = true ∧
    nextIs (exec .cliff State.reset) (fun t => stepsLeft t == 20) = true ∧
    nextIs (step { delayState .cWait 10 with seq := .txwCmpl }) (fun t => stepsLeft t == 20) = true := by
  decide

/-! ### Whole operations: a state with the script of each -/

/-- A request on the port after reset, and the environment's script. -/
def scripted (w v : Word) (script : List EnvMove) : State :=
  { State.reset with
    req := { valid := true, word := w, bytes := [], value := v }
    script := script }

theorem scripted_offered (w v : Word) (script : List EnvMove) : Offered (scripted w v script) :=
  ⟨test_config_legal, rfl, rfl, rfl⟩

theorem scripted_tx (script : List EnvMove) : presented (scripted 0x305 0 script) = .ok (.tx 0x03 0) := by
  have h : presented (scripted 0x305 0 script) = presented (offer 0x305 [] 0) := rfl
  rw [h]; decide

/-- CleanReceiveFinishesInFiveSteps. -/
theorem test_witness_clean_receive : ∃ (s : State) (raw poll : List Byte),
    Offered s ∧ presented s = .ok (.rx 0x23 0) ∧ GoodFrame s.cfg raw 0x23 ∧
    raw.length ≤ (if (0x23 : Byte) = s.cfg.cmd.frontDistance then 5 else 4) ∧
    PollReads s.cfg poll s.cfg.code.eNone ∧
    s.script =
      [answerMove .ok, answerMove (.data raw), answerMove .ok, answerMove (.data poll)] ++ [] := by
  refine ⟨scripted 0x2306 0 [answerMove .ok, answerMove (.data [0x03, 0x23, 0x07, 0xD2]), answerMove .ok,
    answerMove (.data [0x03, 0x20, 0x00, 0xDC])], [0x03, 0x23, 0x07, 0xD2], [0x03, 0x20, 0x00, 0xDC],
    scripted_offered _ _ _, by decide, ?_, by decide, ⟨3, by decide⟩, rfl⟩
  unfold GoodFrame; decide
/-- CleanTransmitAndWaitFinishesInEightSteps. -/
theorem test_witness_clean_txw : ∃ (s : State) (poll raw poll2 : List Byte),
    Offered s ∧ presented s = .ok (.txw 0x04 0) ∧ PollReads s.cfg poll s.cfg.code.eNone ∧
    FourByteFrame raw s.cfg.cmd.completionRead 0 ∧ PollReads s.cfg poll2 s.cfg.code.eNone ∧
    s.script = [answerMove .ok, answerMove .ok, answerMove (.data poll), answerMove .ok,
      answerMove (.data raw), answerMove .ok, answerMove (.data poll2)] ++ [] :=
  ⟨scripted 0x407 0 [answerMove .ok, answerMove .ok, answerMove (.data [0x03, 0x20, 0x00, 0xDC]),
      answerMove .ok, answerMove (.data [0x03, 0x21, 0x00, 0xDB]), answerMove .ok,
      answerMove (.data [0x03, 0x20, 0x00, 0xDC])],
    [0x03, 0x20, 0x00, 0xDC], [0x03, 0x21, 0x00, 0xDB], [0x03, 0x20, 0x00, 0xDC],
    scripted_offered _ _ _, by decide, ⟨3, by decide⟩, ⟨3, by decide⟩, ⟨3, by decide⟩, rfl⟩
/-- InitFinishesWhenTheDeviceAnswers, with one retry and no delay: the least value that INIT scans for. -/
theorem test_witness_init_finishes : ∃ (s : State) (present : List BusAddr),
    Offered s ∧ presented s = .ok .init ∧ s.req.value.toNat = 65536 ∧ s.cfg.devAddr ∈ present ∧
    s.script = [answerMove (.devices present), answerMove .ok] ++ [] :=
  ⟨scripted 8 0x00010000 [answerMove (.devices [0x10]), answerMove .ok], [0x10],
    scripted_offered _ _ _, by decide, by decide, by decide, rfl⟩
/-- CleanCliffReadFinishesInFiveSteps: a detection (0x80) and a non-detection (0x7F). -/
theorem test_witness_clean_cliff : ∃ (s : State) (raw poll : List Byte),
    Offered s ∧ presented s = .ok .cliff ∧ FourByteFrame raw s.cfg.cmd.lineSensor 0x80 ∧
    FourByteFrame [0x03, 0x10, 0x7F, 0x6D] s.cfg.cmd.lineSensor 0x7F ∧
    (0x80 &&& s.cfg.cliffMask ≠ 0 ∧ 0x7F &&& s.cfg.cliffMask = 0) ∧
    PollReads s.cfg poll s.cfg.code.eNone ∧
    s.script =
      [answerMove .ok, answerMove (.data raw), answerMove .ok, answerMove (.data poll)] ++ [] :=
  ⟨scripted 9 0 [answerMove .ok, answerMove (.data [0x03, 0x10, 0x80, 0x6C]), answerMove .ok,
      answerMove (.data [0x03, 0x20, 0x00, 0xDC])],
    [0x03, 0x10, 0x80, 0x6C], [0x03, 0x20, 0x00, 0xDC], scripted_offered _ _ _, by decide,
    ⟨3, by decide⟩, ⟨3, by decide⟩, by decide, ⟨3, by decide⟩, rfl⟩
/-- AbsenceWithinTheBudgetIsRetried, at k = P_MAX_RETRIES. -/
theorem test_witness_absence : ∃ (s : State) (k : Nat) (poll : List Byte),
    Offered s ∧ presented s = .ok (.tx 0x03 0) ∧ k = s.cfg.maxRetries.toNat ∧
    PollReads s.cfg poll s.cfg.code.eNone ∧
    s.script = (List.replicate k [answerMove .absent, doneMove]).flatten ++
      [answerMove .ok, answerMove .ok, answerMove (.data poll)] ++ [] :=
  ⟨scripted 0x305 0 ((List.replicate 3 [answerMove .absent, doneMove]).flatten ++
      [answerMove .ok, answerMove .ok, answerMove (.data [0x03, 0x20, 0x00, 0xDC])] ++ []),
    3, [0x03, 0x20, 0x00, 0xDC], scripted_offered _ _ _, scripted_tx _, by decide, ⟨3, by decide⟩, rfl⟩
/-- PersistentAbsenceIsAbandoned. -/
theorem test_witness_persistent_absence : ∃ s : State,
    Offered s ∧ presented s = .ok (.tx 0x03 0) ∧
    s.script = (List.replicate (s.cfg.maxRetries.toNat + 1)
      [answerMove .absent, doneMove]).flatten ++ [] :=
  ⟨scripted 0x305 0 ((List.replicate 4 [answerMove .absent, doneMove]).flatten ++ []),
    scripted_offered _ _ _, scripted_tx _, by decide⟩
/-- PersistentErrorIsAbandoned. -/
theorem test_witness_persistent_error : ∃ (s : State) (b : Byte) (poll : List Byte),
    Offered s ∧ presented s = .ok (.tx 0x03 0) ∧ PollReads s.cfg poll b ∧
    b ∉ [s.cfg.code.eNone, s.cfg.code.eStartKey, s.cfg.code.eCliff] ∧
    s.script = (List.replicate (s.cfg.maxRetries.toNat + 1)
      [answerMove .ok, answerMove .ok, answerMove (.data poll), doneMove]).flatten ++ [] :=
  ⟨scripted 0x305 0 ((List.replicate 4
      [answerMove .ok, answerMove .ok, answerMove (.data [0x03, 0x20, 0x03, 0xD9]), doneMove]).flatten ++ []),
    0x03, [0x03, 0x20, 0x03, 0xD9], scripted_offered _ _ _, scripted_tx _, ⟨3, by decide⟩, by decide,
    by decide⟩
/-- LockoutLastsWhileTheCliffIsReported: re-polls that read the cliff, are cut short, and are answered ABSENT
at the write and at the read. -/
theorem test_witness_lockout_lasts : ∃ (s : State) (polls : List (List EnvMove)),
    s.cfg.legal = true ∧ s.rst = false ∧ s.st = .lWait ∧ s.timer ≠ none ∧ s.timerIn = none ∧
    s.status.err = s.cfg.code.eCliff ∧ polls ≠ [] ∧
    (∀ p ∈ polls,
      p = [doneMove, answerMove .absent] ∨ p = [doneMove, answerMove .ok, answerMove .absent] ∨
      ∃ raw, p = [doneMove, answerMove .ok, answerMove (.data raw)] ∧
        (PollReads s.cfg raw s.cfg.code.eCliff ∨
          (raw.length ≤ 4 ∧ ∃ code, BadFrame s.cfg raw s.cfg.cmd.errorRead code))) ∧
    s.script = polls.flatten ++ [] := by
  let polls : List (List EnvMove) :=
    [[doneMove, answerMove .ok, answerMove (.data [0x03, 0x20, 0x09, 0xD3])],
      [doneMove, answerMove .ok, answerMove (.data [0x03, 0x20, 0x00])], [doneMove, answerMove .absent],
      [doneMove, answerMove .ok, answerMove .absent]]
  refine ⟨{ State.reset with
    st := .lWait, timer := some 20, status := { State.reset.status with err := 0x09 }
    script := polls.flatten ++ [] }, polls, test_config_legal, rfl, rfl, by decide, rfl, rfl,
    by simp [polls], ?_, rfl⟩
  intro p h
  simp only [polls, List.mem_cons, List.not_mem_nil, or_false] at h
  rcases h with rfl | rfl | rfl | rfl
  · exact .inr (.inr ⟨_, rfl, .inl ⟨3, by decide⟩⟩)
  · exact .inr (.inr ⟨_, rfl, .inr ⟨by decide, _, test_bad_frames.1⟩⟩)
  · exact .inl rfl
  · exact .inr (.inl rfl)
/-- InitFailsAfterItsRetries: two scans that do not show 0x10. -/
theorem test_witness_init_fails : ∃ (s : State) (scans : List (List BusAddr)),
    Offered s ∧ presented s = .ok .init ∧ s.req.value.toNat / 65536 = scans.length ∧
    (∀ a ∈ scans, s.cfg.devAddr ∉ a) ∧
    s.script = (scans.map fun a => [answerMove (.devices a), doneMove]).flatten ++ [] :=
  ⟨scripted 8 0x00020032 (([[], [0x22]].map fun a => [answerMove (.devices a), doneMove]).flatten ++ []),
    [[], [0x22]], scripted_offered _ _ _, by decide, by decide, by decide, rfl⟩
/-- CompletionLoopLastsWhileOutstanding, at k = 1. -/
theorem test_witness_completion_loop : ∃ (s : State) (raw poll : List Byte) (b : Byte),
    s.cfg.legal = true ∧ s.rst = false ∧ s.st = .cWait ∧ s.seq = .txwCmpl ∧
    s.timer ≠ none ∧ s.timerIn = none ∧ FourByteFrame raw s.cfg.cmd.completionRead b ∧ b ≠ 0 ∧
    PollReads s.cfg poll s.cfg.code.eNone ∧
    s.script = (List.replicate 1 [doneMove, answerMove .ok, answerMove (.data raw), answerMove .ok,
      answerMove (.data poll)]).flatten ++ [] :=
  ⟨{ State.reset with
      st := .cWait, seq := .txwCmpl, timer := some 10
      script := [doneMove, answerMove .ok, answerMove (.data [0x03, 0x21, 0x01, 0xDA]), answerMove .ok,
        answerMove (.data [0x03, 0x20, 0x00, 0xDC])] },
    [0x03, 0x21, 0x01, 0xDA], [0x03, 0x20, 0x00, 0xDC], 0x01, test_config_legal, rfl, rfl, rfl, by decide,
    rfl, ⟨3, by decide⟩, by decide, ⟨3, by decide⟩, rfl⟩

end Sys2Proof.Tests
end

section
/-! PROOFS of the family 00_scope: LEENC's bytes (40_codec.md R115, R116). -/

namespace Sys2Proof.Machine

open Sys2Proof

/-- R116: LEENC's accepting step as a whole next state. The splitter emits at most four bytes, so the end of
the operation draws no free value for `rsp_n`. -/
theorem exec_leenc (s : State) :
    exec .leenc s = .next
      { s with
        latch := latched 0x4 0 0 s
        rsp :=
          { valid := true, result := .ok, n := BitVec.ofNat 8 (splitLE s.cfg s.req.value).length
            bytes := splitLE s.cfg s.req.value, value := s.req.value }
        lastResult := .ok, seq := .plain, st := .idle } := by
  have hshort : (splitLE s.cfg s.req.value).length < 256 := by
    obtain ⟨-, -, -, hfour⟩ := splitLE_spec s.cfg s.req.value
    omega
  have hexec : exec .leenc s = execLeenc s := rfl
  rw [hexec, execLeenc, latchRequest_eq]
  exact congrArg Host.Outcome.next (finish_of_short _ _ _ _ hshort)

/-- Settles O12: the bytes are those of the splitter, whose value, last byte and length `splitLE_spec` gives;
a width of 32 or more cuts nothing off the value. -/
theorem leencReturnsTheMinimalLittleEndianBytes :
    Obligations.LeencReturnsTheMinimalLittleEndianBytes := by
  intro s
  obtain ⟨hvalue, hlast, hwidth, hfour⟩ := splitLE_spec s.cfg s.req.value
  have hwhole (h : 32 ≤ s.cfg.leWidth) : s.req.value.toNat % 2 ^ s.cfg.leWidth = s.req.value.toNat :=
    Nat.mod_eq_of_lt (BitVec.toNat_lt_twoPow_of_le h)
  exact ⟨splitLE s.cfg s.req.value, hfour, hwidth, hlast, hvalue,
    fun h => hvalue.trans (hwhole h), exec_leenc s⟩

end Sys2Proof.Machine
end

section
/-! PROOFS of the family 10_state, the layer they share: what an accepted operation leaves, the run's loops,
and the induction step of an invariant. -/

namespace Sys2Proof.Machine

open Sys2Proof

/-! ## What an accepted operation leaves -/

/-- `b` after the latch write of R140 for the operation `i`. -/
def latchInstr (i : Instr) (b : State) : State :=
  latchRequest i.op i.cmdField i.nField b

/-- Everything the accepting step of the operation `i` can leave (R111, R114, R116, R120, R141, R181, R188,
R194): a reply at once, with or without a decode, an engine run, or INIT's first loop test. -/
inductive Accepted : Instr → State → State → Prop
  | replied (i : Instr) (b : State) (bs : List Byte) (v : Word) :
      Accepted i b (finish .ok bs v (latchInstr i b))
  | decoded (cmd n : Byte) (b : State) (bs : List Byte) (v : Word) :
      Accepted (.decode cmd n) b
        (finish .ok bs v (decodeInto (portBytes n.toNat b) cmd (latchInstr (.decode cmd n) b)))
  | run (i : Instr) (b : State) (cmd : Byte) (p : List Byte) (d : Dir) (q : Seq) (ab : Bool)
      (hlen : p.length ≤ i.nField.toNat) (htx : q = .txwTx → d = .tx) (hcmpl : q ≠ .txwCmpl)
      (hcliff : q = .cliff → d = .rx ∧ cmd = b.cfg.cmd.lineSensor) :
      Accepted i b (engineStart cmd p d { latchInstr i b with seq := q, abandonedAny := ab })
  | init (b : State) (retries delayMs : Half) :
      Accepted .init b
        (initTop
          { latchInstr .init b with
            init := { count := 0, retries := retries, delayMs := delayMs } })

theorem exec_accepted {i : Instr} {b u : State} (h : exec i b = .next u) : Accepted i b u := by
  have hops (op : BitVec 4) (cmd n : Byte) : (latchRequest op cmd n b).operands.length = n.toNat := by
    rw [operands_latchRequest, portBytes_length]
  cases i <;> cases h
  case cksum n => exact .replied (.cksum n) b _ _
  case encode cmd n => exact .replied (.encode cmd n) b _ _
  case decode cmd n =>
    have h := Accepted.decoded cmd n b
    rw [← operands_latchRequest 0x3 cmd n b] at h
    exact h _ _
  case leenc => exact .replied .leenc b _ _
  case tx cmd n => exact .run (.tx cmd n) b cmd _ .tx .plain _ (hops _ _ _).le (by simp) (by simp) (by simp)
  case rx cmd n => exact .run (.rx cmd n) b cmd _ .rx .plain _ (hops _ _ _).le (by simp) (by simp) (by simp)
  case txw cmd n =>
    exact .run (.txw cmd n) b cmd _ .tx .txwTx _ (hops _ _ _).le (by simp) (by simp) (by simp)
  case init => exact .init b _ _
  case cliff => exact .run .cliff b _ [] .rx .cliff _ (by simp) (by simp) (by simp) (fun _ => ⟨rfl, rfl⟩)

/-- R90: an operation uses the N of the word, or 0 where the field is marked "0". -/
theorem nField_of_operation {op : BitVec 4} {cmd n : Byte} {i : Instr} (h : operation op cmd n = .ok i) :
    i.nField = n ∨ i.nField = 0 := by
  unfold operation at h
  split at h <;> (try split at h) <;> cases h <;> simp [Instr.nField]

/-- R90: the N of an accepted request is at most P_MAX_OPERAND. -/
theorem nField_le_of_decode {m : Nat} {w : Word} {i : Instr} (h : decode m w = .ok i) :
    i.nField.toNat ≤ m := by
  unfold decode at h
  split at h
  · cases h
  · split at h
    · cases h
    · split at h
      · cases h
      · next hle =>
        rcases nField_of_operation h with hn | hn <;> rw [hn]
        · exact Nat.le_of_not_lt hle
        · exact Nat.zero_le m

/-! ## The loop tests -/

/-- The two ways of ENGINE_TOP (R143). -/
theorem engineTop_cases (b : State) :
    (b.attempts.toNat ≤ b.cfg.maxRetries.toNat ∧ engineTop b = beginAttempt b) ∨
      engineTop b = engineReturn .abandoned b := by
  rcases Nat.lt_or_ge b.cfg.maxRetries.toNat b.attempts.toNat with h | h
  · exact .inr (engineTop_of_lt b h)
  · exact .inl ⟨h, engineTop_of_le b h⟩

/-- The effective code of the attempt that the poll's bytes `raw` end (R149, R151). -/
def pollCode (raw : List Byte) (b : State) : Byte :=
  effective b.cfg ((decodeFrame b.cfg raw b.cfg.cmd.errorRead).code b.cfg) b.pfail (errAfter b raw)

/-- The state in which BRANCH is taken: the poll is decoded and OUTCOME holds its code (R149). -/
def afterPoll (raw : List Byte) (b : State) : State :=
  { decodeInto raw b.cfg.cmd.errorRead b with outcome := pollCode raw b }

theorem pollBranch_eq (raw : List Byte) (b : State) :
    pollBranch raw b = branch (pollCode raw b) (afterPoll raw b) := by
  simp [pollBranch, pollCode, afterPoll, decodeInto_err]

/-- The two ways of INIT_TOP (R190). -/
theorem initTop_cases (b : State) :
    (b.init.count.toNat < b.init.retries.toNat ∧ initTop b = issueScan .iScan b) ∨
      initTop b = finish .initFailed [] 0 b := by
  unfold initTop
  split
  · exact .inr rfl
  · next h => exact .inl ⟨by simpa [BitVec.le_def] using h, rfl⟩

/-! ## The induction step of an invariant -/

theorem busStep_ne_restart {p : Phase} {a : BusAnswer} {b u : State} (h : BusStep p a b u) :
    p ≠ .restart := by
  rintro rfl
  cases h <;> simp_all [Phase.inAttempt]

/-- A predicate that the environment's turn cannot break holds after a step when each kind of step
(`StepKind`) establishes it. -/
theorem step_establishes {P : State → Prop} {s t : State} (h : step s = .next t)
    (hdrive : ∀ u, P u → P (drive u))
    (hreset : s.rst = true → P (blockReset s))
    (hquiet : s.rst = false → P (openStep s))
    (hrefuse : Offered s → P (finish .refused [] 0 (takeRequest s)))
    (hrun : ∀ i u, Offered s → presented s = .ok i → Accepted i (takeRequest s) u → P u)
    (hbus : ∀ a u, BusAnswered s a → BusStep s.st a (busTaken s) u → P u)
    (hdelay : ∀ u, DelayAnswered s → DelayStep s.st (delayTaken s) u → P u) : P t := by
  obtain ⟨-, hk⟩ := step_kind h
  cases hk with
  | reset hr ht => exact ht ▸ hdrive _ (hreset hr)
  | ran i u ho hd hx ht => exact ht ▸ hdrive _ (hrun i u ho hd (exec_accepted hx))
  | refusal e ho hd ht => exact ht ▸ hdrive _ (hrefuse ho)
  | quiet hr hs ht => exact ht ▸ hdrive _ (hquiet hr)
  | bus a u ha hx ht => exact ht ▸ hdrive _ (hbus a u ha (busHandler_next hx))
  | delay u ha hx ht => exact ht ▸ hdrive _ (hdelay u ha (delayHandler_next hx))

end Sys2Proof.Machine
end

section
/-! PROOFS of the family 10_state: who writes the status registers (R40). -/

namespace Sys2Proof.Machine

open Sys2Proof

/-- The status register file after the frames, if any, that reach the decoder in the next step: the one frame
writes the registers of its id's row (R40, R119). -/
inductive StatusRead (s : State) : StatusFile → Prop
  | kept : StatusRead s s.status
  | err (raw : List Byte) (b : Byte) (hr : Received s raw s.cfg.cmd.errorRead)
      (hg : GoodFrame s.cfg raw s.cfg.cmd.errorRead) (hb : raw[2]? = some b) :
      StatusRead s { s.status with err := b }
  | cmpl (raw : List Byte) (b : Byte) (hr : Received s raw s.cfg.cmd.completionRead)
      (hg : GoodFrame s.cfg raw s.cfg.cmd.completionRead) (hb : raw[2]? = some b) :
      StatusRead s { s.status with cmpl := b }
  | line (raw : List Byte) (b : Byte) (hr : Received s raw s.cfg.cmd.lineSensor)
      (hg : GoodFrame s.cfg raw s.cfg.cmd.lineSensor) (hb : raw[2]? = some b) :
      StatusRead s { s.status with line := b, cliffRaw := b &&& s.cfg.cliffMask != 0 }
  | dist (raw : List Byte) (lo hi : Byte) (hr : Received s raw s.cfg.cmd.frontDistance)
      (hg : GoodFrame s.cfg raw s.cfg.cmd.frontDistance) (hlo : raw[2]? = some lo)
      (hhi : raw[3]? = some hi) :
      StatusRead s { s.status with dist := hi ++ lo }
  | version (raw : List Byte) (b : Byte) (hr : Received s raw s.cfg.cmd.version)
      (hg : GoodFrame s.cfg raw s.cfg.cmd.version) (hb : raw[2]? = some b) :
      StatusRead s { s.status with version := b }
  | resetAck (raw : List Byte) (b : Byte) (hr : Received s raw s.cfg.cmd.commsReset)
      (hg : GoodFrame s.cfg raw s.cfg.cmd.commsReset) (hb : raw[2]? = some b) :
      StatusRead s { s.status with resetAck := b }

theorem getElem?_eq_some_getD {raw : List Byte} {k : Nat} (h : k < raw.length) :
    raw[k]? = some (raw.getD k 0) := by
  simp [List.getD_eq_getElem?_getD, h]

/-- The writeback of a good frame writes the row of its id (R119); a good frame holds the bytes it takes. -/
theorem statusRead_writebackStatus {s : State} {raw : List Byte} {e : Byte} (hr : Received s raw e)
    (hg : GoodFrame s.cfg raw e) : StatusRead s (writebackStatus s.cfg raw e s.status) := by
  have hlen : 2 < raw.length := by
    have := hg.1
    split at this <;> omega
  have hb := getElem?_eq_some_getD hlen
  unfold writebackStatus
  split
  · next he => subst he; exact .err raw _ hr hg hb
  split
  · next he => subst he; exact .cmpl raw _ hr hg hb
  split
  · next he => subst he; exact .line raw _ hr hg hb
  split
  · next he =>
    subst he
    have hlong : 5 ≤ raw.length := by simpa using hg.1
    exact .dist raw _ _ hr hg hb (getElem?_eq_some_getD (Nat.lt_of_lt_of_le (by decide) hlong))
  split
  · next he => subst he; exact .version raw _ hr hg hb
  split
  · next he => subst he; exact .resetAck raw _ hr hg hb
  · exact .kept

/-- The only two ways in which a step outside reset writes the status registers: the writeback of a frame
(R119), and after it the debounce update with which a CLIFF operation finishes (R195). -/
def StatusFollows (s t : State) : Prop :=
  ∃ f, StatusRead s f ∧
    (t.status = f ∨
      (s.seq = .cliff ∧ t.st = .idle ∧ t.rsp.valid = true ∧ t.status = f.debounce s.cfg.cliffClearCount))

theorem StatusFollows.of_read {s t : State} (h : StatusRead s t.status) : StatusFollows s t :=
  ⟨t.status, h, .inl rfl⟩

theorem StatusFollows.of_kept {s t : State} (h : t.status = s.status) : StatusFollows s t :=
  ⟨s.status, .kept, .inl h⟩

/-- A frame that reaches the decoder is written back, or dropped as a whole (R117). -/
theorem statusRead_decodeInto {s b : State} {raw : List Byte} {e : Byte} (hr : Received s raw e)
    (hcfg : b.cfg = s.cfg) (hst : b.status = s.status) :
    StatusRead s (decodeInto raw e b).status := by
  cases hd : decodeFrame b.cfg raw e with
  | failed code => rw [decodeInto_of_failed hd, hst]; exact .kept
  | good pl =>
    rw [decodeInto_of_good hd, hcfg, hst]
    exact statusRead_writebackStatus hr (goodFrame_of_decodeFrame (hcfg ▸ hd))

theorem statusFollows_runEnd {s b u : State} {r : Result} (h : RunEnd r b u) (hcfg : b.cfg = s.cfg)
    (hseq : b.seq = s.seq) (hread : StatusRead s b.status) : StatusFollows s u := by
  cases h with
  | sensed h v => exact ⟨_, hread, .inr ⟨hseq ▸ h, rfl, rfl, by simp [hcfg]⟩⟩
  | _ => exact ⟨_, hread, .inl rfl⟩

theorem statusFollows_branch {s b : State} {e : Byte} (hcfg : b.cfg = s.cfg)
    (hseq : b.seq = s.seq) (hread : StatusRead s b.status) : StatusFollows s (branch e b) := by
  generalize hu : branch e b = u
  cases branch_cases hu with
  | clean => exact statusFollows_runEnd (engineReturn_end rfl) hcfg hseq hread
  | _ => exact ⟨_, hread, .inl rfl⟩

theorem statusFollows_accepted {s u : State} {i : Instr} (ho : Offered s) (hd : presented s = .ok i)
    (h : Accepted i (takeRequest s) u) : StatusFollows s u := by
  cases h with
  | replied | run => exact .of_kept rfl
  | init =>
    rcases initTop_cases _ with ⟨-, hu⟩ | hu <;> rw [hu] <;> exact .of_kept rfl
  | decoded cmd n bs v =>
    exact .of_read (statusRead_decodeInto (.inr ⟨ho, n, hd, rfl⟩) rfl rfl)

theorem statusFollows_busStep {s u : State} {a : BusAnswer} (ha : BusAnswered s a)
    (h : BusStep s.st a (busTaken s) u) : StatusFollows s u := by
  generalize hp : s.st = p at h
  generalize hb : busTaken s = b at h
  have hcfg : b.cfg = s.cfg := hb ▸ rfl
  have hseq : b.seq = s.seq := hb ▸ rfl
  have hst : b.status = s.status := hb ▸ rfl
  have hrun : b.run = s.run := hb ▸ rfl
  have poll {raw : List Byte} (ha : BusAnswered s (.data raw)) (hp : s.st = .pRd ∨ s.st = .lRd) :
      StatusRead s (decodeInto raw b.cfg.cmd.errorRead b).status :=
    statusRead_decodeInto (.inl ⟨ha, .inr ⟨hp, by rw [hcfg]⟩⟩) hcfg hst
  cases h with
  | primary _ raw =>
    exact .of_read (statusRead_decodeInto (.inl ⟨ha, .inl ⟨hp, by rw [hrun]⟩⟩) hcfg hst)
  | polled =>
    rw [pollBranch_eq]
    exact statusFollows_branch (by simpa [afterPoll] using hcfg) (by simpa [afterPoll] using hseq)
      (poll ha (.inl hp))
  | lockRead _ raw =>
    generalize hu : lockoutTest raw b = u
    have hread := poll ha (.inr hp)
    cases lockoutTest_cases hu <;> exact .of_read hread
  | _ => exact .of_kept hst

theorem statusFollows_delayStep {s u : State} (h : DelayStep s.st (delayTaken s) u) :
    StatusFollows s u := by
  generalize s.st = p at h
  generalize hb : delayTaken s = b at h
  have hst : b.status = s.status := hb ▸ rfl
  cases h with
  | backoff =>
    rcases engineTop_cases b with ⟨-, hu⟩ | hu <;> rw [hu]
    · exact .of_kept hst
    · exact statusFollows_runEnd (engineReturn_end rfl) (hb ▸ rfl) (hb ▸ rfl) (hst ▸ .kept)
  | nextScan =>
    rcases initTop_cases { b with init := { b.init with count := b.init.count + 1 } } with
      ⟨-, hu⟩ | hu <;> rw [hu] <;> exact .of_kept hst
  | _ => exact .of_kept hst

theorem step_statusFollows {s t : State} (hr : s.rst = false) (h : step s = .next t) :
    StatusFollows s t := by
  refine step_establishes h ?_ (by simp [hr]) (fun _ => .of_kept rfl) (fun _ => .of_kept rfl)
    (fun _ _ => statusFollows_accepted) (fun _ _ => statusFollows_busStep)
    (fun _ _ => statusFollows_delayStep)
  intro u hu
  simpa [StatusFollows] using hu

/-- The debounce update writes its own pair alone (R195). -/
theorem debounce_eq (n : Nat) (f : StatusFile) :
    ∃ cnt filt, f.debounce n = { f with cliffCnt := cnt, cliffFilt := filt } := by
  unfold StatusFile.debounce
  split <;> exact ⟨_, _, rfl⟩

/-- Settles O40: the new status file is that of at most one written frame, but for the debounce pair at the
end of a CLIFF run; so a register that differs is one the frame's row names. -/
theorem statusRegistersChangeOnlyByDecodedFrames :
    Obligations.StatusRegistersChangeOnlyByDecodedFrames := by
  intro s t hr h
  obtain ⟨f, hread, hend⟩ := step_statusFollows hr h
  obtain ⟨cnt, filt, ht, hpair⟩ : ∃ cnt filt,
      t.status = { f with cliffCnt := cnt, cliffFilt := filt } ∧
      (cnt ≠ f.cliffCnt ∨ filt ≠ f.cliffFilt → s.seq = .cliff ∧ t.st = .idle ∧ t.rsp.valid = true) := by
    rcases hend with ht | ⟨hseq, hst, hv, ht⟩
    · exact ⟨_, _, ht, by simp⟩
    · obtain ⟨cnt, filt, hd⟩ := debounce_eq s.cfg.cliffClearCount f
      exact ⟨cnt, filt, ht.trans hd, fun _ => ⟨hseq, hst, hv⟩⟩
  rw [ht]
  cases hread with
  | kept => simpa using hpair
  | err raw b hr hg hb =>
    refine ⟨fun _ => ⟨raw, hr, hg, hb⟩, ?_⟩
    simpa using hpair
  | cmpl raw b hr hg hb =>
    refine ⟨by simp, fun _ => ⟨raw, hr, hg, hb⟩, ?_⟩
    simpa using hpair
  | line raw b hr hg hb =>
    refine ⟨by simp, by simp, fun _ => ⟨raw, hr, hg, hb, rfl⟩, ?_⟩
    simpa using hpair
  | dist raw lo hi hr hg hlo hhi =>
    have hval : (hi ++ lo).toNat = lo.toNat + 256 * hi.toNat := by
      rw [BitVec.toNat_append, ← Nat.shiftLeft_add_eq_or_of_lt lo.isLt, Nat.shiftLeft_eq]
      omega
    refine ⟨by simp, by simp, by simp, fun _ => ⟨raw, lo, hi, hr, hg, hlo, hhi, hval⟩, ?_⟩
    simpa using hpair
  | version raw b hr hg hb =>
    refine ⟨by simp, by simp, by simp, by simp, fun _ => ⟨raw, hr, hg, hb⟩, ?_⟩
    simpa using hpair
  | resetAck raw b hr hg hb =>
    refine ⟨by simp, by simp, by simp, by simp, by simp, fun _ => ⟨raw, hr, hg, hb⟩, ?_⟩
    simpa using hpair

end Sys2Proof.Machine
end

section
/-! PROOFS of the family 10_state: the outstanding request (R42, R52, R53, R72) and the retry budget (R43,
R161). -/

namespace Sys2Proof.Machine

open Sys2Proof

/-! ## The outstanding request -/

/-- Nothing is outstanding: the state in which the block issues its next request. -/
def PortsClear (b : State) : Prop :=
  b.bus = none ∧ b.timer = none

theorem portsFit_drive {u : State} (h : PortsFit u) : PortsFit (drive u) := by
  simpa [PortsFit, expectedBus, delayFits] using h

theorem portsFit_finish {b : State} {r : Result} {bs : List Byte} {v : Word} (h : PortsClear b) :
    PortsFit (finish r bs v b) := h

theorem portsFit_beginAttempt {b : State} (h : PortsClear b) : PortsFit (beginAttempt b) :=
  ⟨rfl, h.2⟩

theorem portsFit_engineStart {b : State} (h : PortsClear b) (cmd : Byte) (p : List Byte) (d : Dir) :
    PortsFit (engineStart cmd p d b) :=
  ⟨rfl, h.2⟩

theorem portsFit_initTop {b : State} (h : PortsClear b) : PortsFit (initTop b) := by
  rcases initTop_cases b with ⟨-, hu⟩ | hu <;> rw [hu]
  · exact ⟨rfl, h.2⟩
  · exact portsFit_finish h

theorem portsFit_runEnd {r : Result} {b u : State} (h : PortsClear b) (hu : RunEnd r b u) :
    PortsFit u := by
  cases hu with
  | plain => exact portsFit_finish h
  | actuated => exact portsFit_engineStart h _ _ _
  | outstanding => exact ⟨h.1, rfl⟩
  | completed => exact portsFit_finish (b := markAbandoned r b) h
  | sensed => exact portsFit_finish h

theorem portsFit_branch {b : State} (h : PortsClear b) (e : Byte) : PortsFit (branch e b) := by
  generalize hu : branch e b = u
  cases branch_cases hu with
  | clean => exact portsFit_runEnd h (engineReturn_end rfl)
  | startKey => exact h
  | cliff => exact ⟨h.1, rfl⟩
  | other => exact ⟨h.1, .inr rfl⟩

theorem portsFit_lockoutTest {raw : List Byte} {b : State} (h : PortsClear b) :
    PortsFit (lockoutTest raw b) := by
  have hclear : PortsClear (decodeInto raw b.cfg.cmd.errorRead b) := by simpa [PortsClear] using h
  generalize hu : lockoutTest raw b = u
  cases lockoutTest_cases hu with
  | again => exact ⟨hclear.1, rfl⟩
  | pause _ hp => exact ⟨hclear.1, rfl, hp⟩
  | resend => exact portsFit_beginAttempt hclear

theorem portsFit_accepted {i : Instr} {b u : State} (h : PortsClear b) (hu : Accepted i b u) :
    PortsFit u := by
  cases hu with
  | replied => exact portsFit_finish h
  | decoded => exact portsFit_finish (by simpa [PortsClear, latchInstr] using h)
  | run => exact portsFit_engineStart h _ _ _
  | init => exact portsFit_initTop h

theorem portsFit_busStep {p : Phase} {a : BusAnswer} {b u : State} (h : PortsClear b)
    (hu : BusStep p a b u) : PortsFit u := by
  cases hu with
  | toRead | toPoll | pollSent | lockSent | scanFound => exact ⟨rfl, h.2⟩
  | primary => exact ⟨by simp [expectedBus], by simpa [delayFits] using h.2⟩
  | polled =>
    rw [pollBranch_eq]
    exact portsFit_branch (by simpa [PortsClear, afterPoll] using h) _
  | absent => exact ⟨h.1, .inl rfl⟩
  | lockRead => exact portsFit_lockoutTest h
  | lockAbsent | scanMissed | keyAbsent => exact ⟨h.1, rfl⟩
  | fault | keySent => exact portsFit_finish h

theorem portsFit_delayStep {p : Phase} {b u : State} (h : PortsClear b) (hu : DelayStep p b u) :
    PortsFit u := by
  cases hu with
  | backoff =>
    rcases engineTop_cases b with ⟨-, hu⟩ | hu <;> rw [hu]
    · exact portsFit_beginAttempt h
    · exact portsFit_runEnd h (engineReturn_end rfl)
  | repoll => exact ⟨rfl, h.2⟩
  | pauseOver => exact portsFit_beginAttempt h
  | nextPoll => exact portsFit_engineStart h _ _ _
  | nextScan => exact portsFit_initTop h

/-- R72: in a state whose transaction is outstanding no delay is. -/
theorem timer_none_of_bus {s : State} {r : BusReq} (h : PortsFit s) (hb : s.bus = some r) :
    s.timer = none := by
  obtain ⟨hbus, hdelay⟩ := h
  rw [hb] at hbus
  cases hst : s.st <;> simp_all [expectedBus, delayFits]

/-- Taking the one outstanding answer, or a request in IDLE, leaves the ports clear. -/
theorem portsClear_busTaken {s : State} {a : BusAnswer} (h : PortsFit s) (ha : BusAnswered s a) :
    PortsClear (busTaken s) := by
  obtain ⟨-, -, -, r, hr, -⟩ := ha
  exact ⟨rfl, timer_none_of_bus (s := s) h hr⟩

theorem portsClear_delayTaken {s : State} (h : PortsFit s) (ha : DelayAnswered s) :
    PortsClear (delayTaken s) := by
  obtain ⟨-, -, -, hsome⟩ := ha
  refine ⟨Option.eq_none_iff_forall_ne_some.mpr fun r (hr : s.bus = some r) => ?_, rfl⟩
  simp [timer_none_of_bus h hr] at hsome

theorem portsClear_takeRequest {s : State} (h : PortsFit s) (ho : Offered s) :
    PortsClear (takeRequest s) := by
  obtain ⟨-, -, hidle, -⟩ := ho
  simpa [PortsFit, expectedBus, delayFits, hidle, PortsClear] using h

/-- Settles O45: a step takes the one outstanding answer, or a request in IDLE where nothing is outstanding,
and every way on issues at most one request, that of the state it enters. -/
theorem stepKeepsThePortsFitting : Obligations.StepKeepsThePortsFitting := by
  intro s t hs h
  exact step_establishes h (fun _ => portsFit_drive) (fun _ => ⟨rfl, rfl⟩) (fun _ => hs)
    (fun ho => portsFit_finish (portsClear_takeRequest hs ho))
    (fun _ _ ho _ => portsFit_accepted (portsClear_takeRequest hs ho))
    (fun _ _ ha => portsFit_busStep (portsClear_busTaken hs ha))
    (fun _ ha => portsFit_delayStep (portsClear_delayTaken hs ha))

/-! ## The retry budget -/

/-- The bound of ATTEMPTS at the loop test of ENGINE_TOP and in every state outside a run. -/
def WithinBudget (b : State) : Prop :=
  b.attempts.toNat ≤ b.cfg.maxRetries.toNat + 1

theorem retryBounded_drive {u : State} (h : RetryBounded u) : RetryBounded (drive u) := by
  simpa [RetryBounded] using h

/-- Outside a run the budget alone is asked. -/
theorem retryBounded_of_not_inRun {b : State} (h : WithinBudget b) (hst : b.st.inRun = false) :
    RetryBounded b := by
  simp [Phase.inRun] at hst
  exact ⟨h, by simp [hst], by simp [hst]⟩

/-- With attempts left every state but BACKOFF fits. -/
theorem retryBounded_of_le {b : State} (h : b.attempts.toNat ≤ b.cfg.maxRetries.toNat)
    (hst : b.st ≠ .backoff) : RetryBounded b :=
  ⟨by omega, fun _ => h, by simp [hst]⟩

/-- R43 and R161: counting the attempt that failed uses up at most the budget. -/
theorem retryBounded_escalate {b : State} (h : b.attempts.toNat ≤ b.cfg.maxRetries.toNat) (ms : Half) :
    RetryBounded (issueDelay ms .backoff { b with attempts := b.attempts + 1 }) := by
  have hcount : (b.attempts + 1).toNat = b.attempts.toNat + 1 := by
    have := b.cfg.maxRetries.isLt
    rw [BitVec.toNat_add]
    exact Nat.mod_eq_of_lt (by simp; omega)
  refine ⟨?_, by simp [Phase.inAttempt, Phase.inLockout], fun _ => ?_⟩
  · exact hcount.trans_le (Nat.succ_le_succ h)
  · exact (Nat.succ_pos _).trans_eq hcount.symm

theorem retryBounded_initTop {b : State} (h : WithinBudget b) : RetryBounded (initTop b) := by
  rcases initTop_cases b with ⟨-, hu⟩ | hu <;> rw [hu] <;> exact retryBounded_of_not_inRun h rfl

theorem retryBounded_runEnd {r : Result} {b u : State} (h : WithinBudget b) (hu : RunEnd r b u) :
    RetryBounded u := by
  cases hu with
  | actuated => exact retryBounded_of_le (Nat.zero_le _) (by simp)
  | plain | outstanding | completed | sensed => exact retryBounded_of_not_inRun h rfl

theorem retryBounded_branch {b : State} (h : b.attempts.toNat ≤ b.cfg.maxRetries.toNat) (e : Byte) :
    RetryBounded (branch e b) := by
  generalize hu : branch e b = u
  cases branch_cases hu with
  | clean => exact retryBounded_runEnd (Nat.le_succ_of_le h) (engineReturn_end rfl)
  | startKey | cliff => exact retryBounded_of_le h (by simp)
  | other => exact retryBounded_escalate h _

theorem retryBounded_accepted {i : Instr} {b u : State} (h : WithinBudget b) (hu : Accepted i b u) :
    RetryBounded u := by
  cases hu with
  | replied => exact retryBounded_of_not_inRun h rfl
  | decoded => exact retryBounded_of_not_inRun (by simpa [WithinBudget, latchInstr] using h) rfl
  | run => exact retryBounded_of_le (Nat.zero_le _) (by simp)
  | init => exact retryBounded_initTop h

theorem retryBounded_lockoutTest {raw : List Byte} {b : State}
    (h : b.attempts.toNat ≤ b.cfg.maxRetries.toNat) : RetryBounded (lockoutTest raw b) := by
  generalize hu : lockoutTest raw b = u
  cases lockoutTest_cases hu with
  | again | pause => exact retryBounded_of_le (by simpa using h) (by simp)
  | resend => exact retryBounded_of_le (Nat.zero_le _) (by simp)

theorem retryBounded_busStep {a : BusAnswer} {b u : State} (h : RetryBounded b)
    (hu : BusStep b.st a b u) : RetryBounded u := by
  obtain ⟨hbudget, hrun, -⟩ := h
  generalize b.st = p at hu hrun
  cases hu with
  | toRead | toPoll | pollSent | lockSent => exact retryBounded_of_le (hrun rfl) (by simp)
  | primary => exact retryBounded_of_le (by simpa using hrun rfl) (by simp)
  | polled =>
    rw [pollBranch_eq]
    exact retryBounded_branch (by simpa [afterPoll] using hrun rfl) _
  | absent _ _ hp => exact retryBounded_escalate (hrun (by simp [hp])) _
  | lockRead => exact retryBounded_lockoutTest (hrun rfl)
  | lockAbsent _ _ hp =>
    exact retryBounded_of_le (hrun (by rcases hp with rfl | rfl <;> rfl)) (by simp)
  | fault | scanFound | scanMissed | keySent | keyAbsent =>
    exact retryBounded_of_not_inRun hbudget rfl

theorem retryBounded_delayStep {b u : State} (h : RetryBounded b) (hu : DelayStep b.st b u) :
    RetryBounded u := by
  obtain ⟨hbudget, hrun, -⟩ := h
  generalize b.st = p at hu hrun
  cases hu with
  | backoff =>
    rcases engineTop_cases b with ⟨hle, hu⟩ | hu <;> rw [hu]
    · exact retryBounded_of_le hle (by simp)
    · exact retryBounded_runEnd hbudget (engineReturn_end rfl)
  | repoll => exact retryBounded_of_le (hrun rfl) (by simp)
  | pauseOver | nextPoll => exact retryBounded_of_le (Nat.zero_le _) (by simp)
  | nextScan => exact retryBounded_initTop hbudget

/-- Settles O46: ATTEMPTS is counted only from within an attempt, where it is at most P_MAX_RETRIES, and the
loop test of ENGINE_TOP lets no further attempt start above that. -/
theorem stepKeepsTheRetryBound : Obligations.StepKeepsTheRetryBound := by
  intro s t hs h
  exact step_establishes h (fun _ => retryBounded_drive)
    (fun _ => retryBounded_of_le (Nat.zero_le _) (by simp [State.resetWith])) (fun _ => hs)
    (fun _ => retryBounded_of_not_inRun hs.1 rfl) (fun _ _ _ _ => retryBounded_accepted hs.1)
    (fun _ _ _ => retryBounded_busStep (b := busTaken s) hs)
    (fun _ _ => retryBounded_delayStep (b := delayTaken s) hs)

end Sys2Proof.Machine
end

section
/-! PROOFS of the family 10_state: the other parts of the invariant (R44 to R51, R54, R155, R195, R216). -/

namespace Sys2Proof.Machine

open Sys2Proof

/-! ## The response port, RESTART and the debounce pair -/

/-- The block is about to go on: no response stands, no HostReset has been issued, and the debounce pair
fits. -/
def Ready (b : State) : Prop :=
  b.rsp = .quiet ∧ b.hostResetReq = false ∧ b.hostResets = 0 ∧ DebounceFits b

/-- The parts of `Good` about the outputs of R51 and R54 and the debounce pair. -/
def OutputsFit (u : State) : Prop :=
  RestartFits u ∧ ResponseFits u ∧ DebounceFits u

theorem responseFits_of_quiet {u : State} (h : u.rsp = .quiet) : ResponseFits u := by
  simp [ResponseFits, h, ResponsePort.quiet]

theorem restartFits_of_ready {u : State} (h : Ready u) (hst : u.st ≠ .restart) : RestartFits u := by
  obtain ⟨-, hreq, hcount, -⟩ := h
  simp [RestartFits, hreq, hcount, hst]

theorem outputsFit_of_ready {u : State} (h : Ready u) (hst : u.st ≠ .restart) : OutputsFit u :=
  ⟨restartFits_of_ready h hst, responseFits_of_quiet h.1, h.2.2.2⟩

theorem outputsFit_finish {b : State} {r : Result} {bs : List Byte} {v : Word} (h : Ready b) :
    OutputsFit (finish r bs v b) := by
  obtain ⟨-, hreq, hcount, hdeb⟩ := h
  exact ⟨by simp [RestartFits, hreq, hcount], by simp [ResponseFits], hdeb⟩

theorem outputsFit_issueHostReset {b : State} (h : Ready b) : OutputsFit (issueHostReset b) := by
  obtain ⟨hrsp, -, hcount, hdeb⟩ := h
  exact ⟨by simp [RestartFits, hcount], responseFits_of_quiet hrsp, hdeb⟩

/-- A writeback leaves the debounce pair alone (R119). -/
theorem ready_decodeInto {b : State} (raw : List Byte) (e : Byte) (h : Ready b) :
    Ready (decodeInto raw e b) := by
  have hpair : (decodeInto raw e b).status.cliffFilt = b.status.cliffFilt ∧
      (decodeInto raw e b).status.cliffCnt = b.status.cliffCnt := by
    unfold decodeInto writebackStatus
    split
    · exact ⟨rfl, rfl⟩
    · dsimp only
      split_ifs <;> exact ⟨rfl, rfl⟩
  simpa [Ready, DebounceFits, hpair] using h

/-- R195: a detection restarts the count, and the filtered status survives a non-detection only below
P_CLIFF_CLEAR_COUNT. -/
theorem ready_debounce {b : State} (h : Ready b) :
    Ready { b with status := b.status.debounce b.cfg.cliffClearCount } := by
  obtain ⟨hrsp, hreq, hcount, -⟩ := h
  refine ⟨hrsp, hreq, hcount, fun hpos hfilt => ?_⟩
  unfold StatusFile.debounce at hfilt ⊢
  by_cases hraw : b.status.cliffRaw = true
  · simpa [hraw] using hpos
  · simp only [hraw] at hfilt ⊢
    by_cases hle : b.cfg.cliffClearCount ≤ (bumpMisses b.status.cliffCnt).toNat
    · simp [hle] at hfilt
    · exact Nat.lt_of_not_le hle

theorem outputsFit_drive {u : State} (h : OutputsFit u) : OutputsFit (drive u) := by
  simpa [OutputsFit, RestartFits, ResponseFits, DebounceFits] using h

theorem outputsFit_initTop {b : State} (h : Ready b) : OutputsFit (initTop b) := by
  rcases initTop_cases b with ⟨-, hu⟩ | hu <;> rw [hu]
  · exact outputsFit_of_ready h (by simp)
  · exact outputsFit_finish h

theorem outputsFit_runEnd {r : Result} {b u : State} (h : Ready b) (hu : RunEnd r b u) :
    OutputsFit u := by
  cases hu with
  | plain => exact outputsFit_finish h
  | completed => exact outputsFit_finish (b := markAbandoned r b) h
  | sensed => exact outputsFit_finish (ready_debounce h)
  | actuated | outstanding => exact outputsFit_of_ready h (by simp)

theorem outputsFit_branch {b : State} (h : Ready b) (e : Byte) : OutputsFit (branch e b) := by
  generalize hu : branch e b = u
  cases branch_cases hu with
  | clean => exact outputsFit_runEnd h (engineReturn_end rfl)
  | startKey => exact outputsFit_issueHostReset h
  | cliff | other => exact outputsFit_of_ready h (by simp)

theorem outputsFit_lockoutTest {raw : List Byte} {b : State} (h : Ready b) :
    OutputsFit (lockoutTest raw b) := by
  have hread := ready_decodeInto raw b.cfg.cmd.errorRead h
  generalize hu : lockoutTest raw b = u
  cases lockoutTest_cases hu <;> exact outputsFit_of_ready hread (by simp)

theorem outputsFit_accepted {i : Instr} {b u : State} (h : Ready b) (hu : Accepted i b u) :
    OutputsFit u := by
  cases hu with
  | replied => exact outputsFit_finish (b := latchInstr i b) h
  | decoded cmd n => exact outputsFit_finish (ready_decodeInto (b := latchInstr (.decode cmd n) b) _ _ h)
  | run => exact outputsFit_of_ready h (by simp)
  | init => exact outputsFit_initTop h

theorem outputsFit_busStep {p : Phase} {a : BusAnswer} {b u : State} (h : Ready b)
    (hu : BusStep p a b u) : OutputsFit u := by
  cases hu with
  | polled _ raw =>
    rw [pollBranch_eq]
    exact outputsFit_branch (b := afterPoll raw b) (ready_decodeInto raw b.cfg.cmd.errorRead h) _
  | primary _ raw => exact outputsFit_of_ready (ready_decodeInto raw b.run.ecmd h) (by simp)
  | lockRead => exact outputsFit_lockoutTest h
  | fault | keySent => exact outputsFit_finish h
  | toRead | toPoll | pollSent | lockSent | lockAbsent | scanFound | scanMissed | keyAbsent =>
    exact outputsFit_of_ready h (by simp)
  | absent => exact outputsFit_of_ready h (by simp [escalate])

theorem outputsFit_delayStep {p : Phase} {b u : State} (h : Ready b) (hu : DelayStep p b u) :
    OutputsFit u := by
  cases hu with
  | backoff =>
    rcases engineTop_cases b with ⟨-, hu⟩ | hu <;> rw [hu]
    · exact outputsFit_of_ready h (by simp)
    · exact outputsFit_runEnd h (engineReturn_end rfl)
  | nextScan => exact outputsFit_initTop h
  | repoll | pauseOver | nextPoll => exact outputsFit_of_ready h (by simp)

theorem ready_resetWith (c : Config) : Ready (State.resetWith c) :=
  ⟨rfl, rfl, rfl, by simp [DebounceFits, State.resetWith]⟩

/-- R54 and R158: outside RESTART a state that fits is ready once its response is gone. -/
theorem ready_openStep {s : State} (h : OutputsFit s) (hst : s.st ≠ .restart) : Ready (openStep s) := by
  obtain ⟨⟨hreq, hcount⟩, -, hdeb⟩ := h
  exact ⟨rfl, by simpa [hst] using hreq, by simpa [hst] using hcount, hdeb⟩

theorem delayStep_ne_restart {p : Phase} {b u : State} (h : DelayStep p b u) : p ≠ .restart := by
  rintro rfl
  cases h

theorem step_keeps_outputsFit {s t : State} (hs : OutputsFit s) (h : step s = .next t) :
    OutputsFit t := by
  refine step_establishes h (fun _ => outputsFit_drive)
    (fun _ => outputsFit_of_ready (ready_resetWith s.cfg) (by simp [State.resetWith]))
    (fun _ => ⟨hs.1, responseFits_of_quiet rfl, hs.2.2⟩) (fun ho => ?_) (fun i u ho _ => ?_)
    (fun a u _ hu => ?_) (fun u _ hu => ?_)
  · exact outputsFit_finish (b := takeRequest s) (ready_openStep (s := s) hs (by simp [ho.2.2.1]))
  · exact outputsFit_accepted (ready_openStep (s := s) hs (by simp [ho.2.2.1]))
  · exact outputsFit_busStep (b := busTaken s) (ready_openStep (s := s) hs (busStep_ne_restart hu)) hu
  · exact outputsFit_delayStep (b := delayTaken s) (ready_openStep (s := s) hs (delayStep_ne_restart hu)) hu

/-! ## The interlock states -/

/-- Outside the lockout and RESTART only PFAIL is asked. -/
theorem interlockFits_of_free {u : State} (h : PfailLocal u) (hlock : u.st.inLockout = false)
    (hst : u.st ≠ .restart) : InterlockFits u := by
  refine ⟨h, ?_, ?_, by simp [hst]⟩
  · rintro (hp | hp | hp) <;> simp [hp, Phase.inLockout] at hlock
  · intro hp
    simp [hp, Phase.inLockout] at hlock

/-- The lockout polls with ERR at E_CLIFF (R155). -/
theorem interlockFits_of_polling {u : State} (h : PfailLocal u)
    (herr : u.status.err = u.cfg.code.eCliff) (hst : u.st = .lWait ∨ u.st = .lWr ∨ u.st = .lRd) :
    InterlockFits u := by
  refine ⟨h, fun _ => herr, ?_, ?_⟩ <;> rcases hst with hst | hst | hst <;> simp [hst]

theorem interlockFits_drive {u : State} (h : InterlockFits u) : InterlockFits (drive u) := by
  simpa [InterlockFits, PfailLocal] using h

/-- R47 and R118: the outcome of a decode is E_NONE or one of the local codes. -/
theorem decoded_code_local (c : Config) (raw : List Byte) (e : Byte) :
    (decodeFrame c raw e).code c = c.code.eNone ∨
      (decodeFrame c raw e).code c = c.code.eReadError ∨
      (decodeFrame c raw e).code c = c.code.eRxChecksum ∨
      (decodeFrame c raw e).code c = c.code.eRxCommand := by
  cases hd : decodeFrame c raw e with
  | good pl => exact .inl rfl
  | failed b => exact .inr (decodeFrame_failed c raw e b hd)

/-- R151: an effective code that is neither E_NONE nor local is what ERR holds. -/
theorem err_eq_of_effective {c : Config} {q p err e : Byte} (he : effective c q p err = e)
    (hq : q ≠ e ∨ q = c.code.eNone) (hp : p ≠ e ∨ p = c.code.eNone) : err = e := by
  rcases effective_cases c q p err with ⟨h, hne⟩ | ⟨h, hne, -⟩ | h
  · exact absurd (h.symm.trans he) (hq.resolve_right hne)
  · exact absurd (h.symm.trans he) (hp.resolve_right hne)
  · exact h.symm.trans he

theorem interlockFits_initTop {b : State} (h : PfailLocal b) : InterlockFits (initTop b) := by
  rcases initTop_cases b with ⟨-, hu⟩ | hu <;> rw [hu] <;>
    exact interlockFits_of_free h rfl (by simp)

theorem interlockFits_runEnd {r : Result} {b u : State} (h : PfailLocal b) (hu : RunEnd r b u) :
    InterlockFits u := by
  cases hu with
  | actuated => exact interlockFits_of_free (.inl rfl) rfl (by simp)
  | plain | outstanding | completed | sensed => exact interlockFits_of_free h rfl (by simp)

/-- R152: the interlock branches are taken on codes that only ERR can report. -/
theorem interlockFits_pollBranch {raw : List Byte} {b : State} (hl : b.cfg.legal = true)
    (h : PfailLocal b) : InterlockFits (pollBranch raw b) := by
  obtain ⟨-, -, -, hlocal⟩ := Config.codes_distinct hl
  have hsep (x : Byte) (hx : x = b.cfg.code.eNone ∨ x = b.cfg.code.eReadError ∨
      x = b.cfg.code.eRxChecksum ∨ x = b.cfg.code.eRxCommand) :
      (x ≠ b.cfg.code.eStartKey ∨ x = b.cfg.code.eNone) ∧
        (x ≠ b.cfg.code.eCliff ∨ x = b.cfg.code.eNone) := by
    rcases hx with hx | hx
    · exact ⟨.inr hx, .inr hx⟩
    · obtain ⟨-, hkey, hcliff⟩ := hlocal x hx
      exact ⟨.inl hkey, .inl hcliff⟩
  have hq := hsep _ (decoded_code_local b.cfg raw b.cfg.cmd.errorRead)
  have hp := hsep _ h
  have hread : PfailLocal (afterPoll raw b) := by simpa [PfailLocal, afterPoll] using h
  have hcfg : (afterPoll raw b).cfg = b.cfg := decodeInto_cfg _ _ _
  have herr : (afterPoll raw b).status.err = errAfter b raw := decodeInto_err _ _
  rw [pollBranch_eq]
  generalize hu : branch (pollCode raw b) (afterPoll raw b) = u
  cases branch_cases hu with
  | clean => exact interlockFits_runEnd hread (engineReturn_end rfl)
  | other => exact interlockFits_of_free hread rfl (by simp)
  | cliff hc =>
    rw [hcfg] at hc
    have hcliff := err_eq_of_effective hc hq.2 hp.2
    exact interlockFits_of_polling hread (herr.trans (hcfg ▸ hcliff)) (.inl rfl)
  | startKey hk =>
    rw [hcfg] at hk
    have hkey := err_eq_of_effective hk hq.1 hp.1
    exact ⟨hread, by simp, by simp, fun _ => ⟨herr.trans (hcfg ▸ hkey), hcfg.symm ▸ hk⟩⟩

theorem interlockFits_lockoutTest {raw : List Byte} {b : State} (h : PfailLocal b) :
    InterlockFits (lockoutTest raw b) := by
  have hlocal : PfailLocal (decodeInto raw b.cfg.cmd.errorRead b) := by simpa [PfailLocal] using h
  generalize hu : lockoutTest raw b = u
  cases lockoutTest_cases hu with
  | again herr => exact interlockFits_of_polling hlocal herr (.inl rfl)
  | pause herr => exact ⟨hlocal, by simp, fun _ => herr, by simp⟩
  | resend => exact interlockFits_of_free (.inl rfl) rfl (by simp)

theorem interlockFits_accepted {i : Instr} {b u : State} (h : PfailLocal b) (hu : Accepted i b u) :
    InterlockFits u := by
  cases hu with
  | replied => exact interlockFits_of_free h rfl (by simp)
  | decoded =>
    exact interlockFits_of_free (by simpa [PfailLocal, latchInstr] using h) rfl (by simp)
  | run => exact interlockFits_of_free (.inl rfl) rfl (by simp)
  | init => exact interlockFits_initTop h

theorem interlockFits_busStep {a : BusAnswer} {b u : State} (hl : b.cfg.legal = true)
    (h : InterlockFits b) (hu : BusStep b.st a b u) : InterlockFits u := by
  obtain ⟨hpf, herr, -, -⟩ := h
  generalize b.st = p at hu herr
  cases hu with
  | primary raw =>
    exact interlockFits_of_free (by simpa [PfailLocal] using decoded_code_local _ _ _) rfl (by simp)
  | polled => exact interlockFits_pollBranch hl hpf
  | lockSent => exact interlockFits_of_polling hpf (herr (by simp)) (.inr (.inr rfl))
  | lockRead => exact interlockFits_lockoutTest hpf
  | lockAbsent _ _ hp => exact interlockFits_of_polling hpf (herr (.inr hp)) (.inl rfl)
  | toRead | toPoll | pollSent | absent | fault | scanFound | scanMissed | keySent | keyAbsent =>
    exact interlockFits_of_free hpf rfl (by simp [escalate])

theorem interlockFits_delayStep {b u : State} (h : InterlockFits b) (hu : DelayStep b.st b u) :
    InterlockFits u := by
  obtain ⟨hpf, herr, -, -⟩ := h
  generalize b.st = p at hu herr
  cases hu with
  | backoff =>
    rcases engineTop_cases b with ⟨-, hu⟩ | hu <;> rw [hu]
    · exact interlockFits_of_free (.inl rfl) rfl (by simp)
    · exact interlockFits_runEnd hpf (engineReturn_end rfl)
  | repoll => exact interlockFits_of_polling hpf (herr (.inl rfl)) (.inr (.inl rfl))
  | pauseOver | nextPoll => exact interlockFits_of_free (.inl rfl) rfl (by simp)
  | nextScan => exact interlockFits_initTop hpf

/-- R155, R163 and R216: the interlock part of the invariant is kept by itself. -/
theorem step_keeps_interlockFits {s t : State} (hs : InterlockFits s) (h : step s = .next t) :
    InterlockFits t :=
  step_establishes h (fun _ => interlockFits_drive)
    (fun _ => interlockFits_of_free (.inl rfl) rfl (by simp [State.resetWith])) (fun _ => hs)
    (fun _ => interlockFits_of_free hs.1 rfl (by simp)) (fun _ _ _ _ => interlockFits_accepted hs.1)
    (fun _ _ ha => interlockFits_busStep (b := busTaken s) ha.1 hs)
    (fun _ _ => interlockFits_delayStep (b := delayTaken s) hs)

/-! ## SEQ, the run registers and INIT's counter -/

/-- What SEQ says of the run registers in an engine run (R44). -/
def RunOwned (b : State) : Prop :=
  (b.seq = .txwTx → b.run.edir = .tx) ∧
  (b.seq = .txwCmpl → b.run.edir = .rx ∧ b.run.ecmd = b.cfg.cmd.completionRead) ∧
  (b.seq = .cliff → b.run.edir = .rx ∧ b.run.ecmd = b.cfg.cmd.lineSensor)

theorem sequenceFits_drive {u : State} (h : SequenceFits u) : SequenceFits (drive u) := by
  simpa [SequenceFits] using h

theorem sequenceFits_of_idle {u : State} (hst : u.st = .idle) (hseq : u.seq = .plain) :
    SequenceFits u := by
  simp [SequenceFits, hst, hseq, Phase.inRun, Phase.inAttempt, Phase.inLockout]

theorem sequenceFits_finish {b : State} {r : Result} {bs : List Byte} {v : Word} :
    SequenceFits (finish r bs v b) :=
  sequenceFits_of_idle rfl rfl

theorem sequenceFits_issueHostReset {b : State} : SequenceFits (issueHostReset b) := by
  simp [SequenceFits, Phase.inRun, Phase.inAttempt, Phase.inLockout]

theorem sequenceFits_of_run {u : State} (h : RunOwned u) (hst : u.st.inRun = true)
    (hread : u.st = .eRd → u.run.edir = .rx) : SequenceFits u := by
  refine ⟨?_, ?_, ?_, hread, fun _ => h⟩
  · intro hp
    simp [hp, Phase.inRun, Phase.inAttempt, Phase.inLockout] at hst
  · intro hp
    simp [hp, Phase.inRun, Phase.inAttempt, Phase.inLockout] at hst
  · rintro (hp | hp | hp) <;> simp [hp, Phase.inRun, Phase.inAttempt, Phase.inLockout] at hst

theorem sequenceFits_of_init {u : State} (hseq : u.seq = .plain)
    (hcount : u.init.count.toNat < u.init.retries.toNat)
    (hst : u.st = .iScan ∨ u.st = .iWr ∨ u.st = .iWait) : SequenceFits u := by
  refine ⟨?_, ?_, fun _ => ⟨hseq, hcount⟩, ?_, ?_⟩ <;> rcases hst with hst | hst | hst <;>
    simp [hst, Phase.inRun, Phase.inAttempt, Phase.inLockout]

theorem sequenceFits_initTop {b : State} (hseq : b.seq = .plain) : SequenceFits (initTop b) := by
  rcases initTop_cases b with ⟨hcount, hu⟩ | hu <;> rw [hu]
  · exact sequenceFits_of_init hseq hcount (.inl rfl)
  · exact sequenceFits_finish

/-- R185: a completion poll's run belongs to TXW. -/
theorem sequenceFits_completionPoll {b : State} (hseq : b.seq = .txwCmpl) :
    SequenceFits (engineStart b.cfg.cmd.completionRead [] .rx b) :=
  sequenceFits_of_run (by simp [RunOwned, hseq]) rfl (by simp)

theorem sequenceFits_runEnd {r : Result} {b u : State} (hu : RunEnd r b u) : SequenceFits u := by
  cases hu with
  | plain | completed | sensed => exact sequenceFits_finish
  | actuated =>
    exact sequenceFits_completionPoll (b := { markAbandoned r b with seq := .txwCmpl }) rfl
  | outstanding hseq =>
    simp [SequenceFits, hseq, Phase.inRun, Phase.inAttempt, Phase.inLockout]

theorem sequenceFits_branch {b : State} (h : RunOwned b) (e : Byte) : SequenceFits (branch e b) := by
  generalize hu : branch e b = u
  cases branch_cases hu with
  | clean => exact sequenceFits_runEnd (engineReturn_end rfl)
  | startKey => exact sequenceFits_issueHostReset
  | cliff | other => exact sequenceFits_of_run h rfl (by simp)

theorem runOwned_decodeInto {b : State} (raw : List Byte) (e : Byte) (h : RunOwned b) :
    RunOwned (decodeInto raw e b) := by
  simpa [RunOwned] using h

theorem sequenceFits_lockoutTest {raw : List Byte} {b : State} (h : RunOwned b) :
    SequenceFits (lockoutTest raw b) := by
  have hread := runOwned_decodeInto raw b.cfg.cmd.errorRead h
  generalize hu : lockoutTest raw b = u
  cases lockoutTest_cases hu <;> exact sequenceFits_of_run hread rfl (by simp)

theorem sequenceFits_accepted {i : Instr} {b u : State} (hseq : b.seq = .plain)
    (hu : Accepted i b u) : SequenceFits u := by
  cases hu with
  | replied | decoded => exact sequenceFits_finish
  | run _ _ cmd p d q ab _ htx hcmpl hcliff =>
    exact sequenceFits_of_run ⟨htx, fun hq => absurd hq hcmpl, hcliff⟩ rfl (by simp)
  | init => exact sequenceFits_initTop hseq

theorem sequenceFits_busStep {a : BusAnswer} {b u : State} (h : SequenceFits b)
    (hu : BusStep b.st a b u) : SequenceFits u := by
  obtain ⟨-, -, hinit, -, hrun⟩ := h
  generalize b.st = p at hu hinit hrun
  cases hu with
  | toRead _ hd => exact sequenceFits_of_run (hrun rfl) rfl (fun _ => hd)
  | toPoll | pollSent | lockSent => exact sequenceFits_of_run (hrun rfl) rfl (by simp)
  | primary _ raw =>
    exact sequenceFits_of_run (runOwned_decodeInto raw b.run.ecmd (hrun rfl)) rfl (by simp)
  | polled _ raw =>
    rw [pollBranch_eq]
    exact sequenceFits_branch (b := afterPoll raw b)
      (runOwned_decodeInto raw b.cfg.cmd.errorRead (hrun rfl)) _
  | absent _ _ hp =>
    exact sequenceFits_of_run (hrun (by simp [Phase.inRun, hp])) rfl (by simp [escalate])
  | fault | keySent => exact sequenceFits_finish
  | lockRead => exact sequenceFits_lockoutTest (hrun rfl)
  | lockAbsent _ _ hp =>
    exact sequenceFits_of_run (hrun (by rcases hp with rfl | rfl <;> rfl)) rfl (by simp)
  | scanFound =>
    obtain ⟨hseq, hcount⟩ := hinit (by simp)
    exact sequenceFits_of_init hseq hcount (.inr (.inl rfl))
  | scanMissed | keyAbsent =>
    obtain ⟨hseq, hcount⟩ := hinit (by simp)
    exact sequenceFits_of_init hseq hcount (.inr (.inr rfl))

theorem sequenceFits_delayStep {b u : State} (h : SequenceFits b) (hu : DelayStep b.st b u) :
    SequenceFits u := by
  obtain ⟨-, hpoll, hinit, -, hrun⟩ := h
  generalize b.st = p at hu hpoll hinit hrun
  cases hu with
  | backoff =>
    rcases engineTop_cases b with ⟨-, hu⟩ | hu <;> rw [hu]
    · exact sequenceFits_of_run (hrun rfl) rfl (by simp)
    · exact sequenceFits_runEnd (engineReturn_end rfl)
  | repoll | pauseOver => exact sequenceFits_of_run (hrun rfl) rfl (by simp)
  | nextPoll => exact sequenceFits_completionPoll (hpoll rfl)
  | nextScan => exact sequenceFits_initTop (hinit (by simp)).1

theorem step_keeps_sequenceFits {s t : State} (hs : SequenceFits s) (h : step s = .next t) :
    SequenceFits t :=
  step_establishes h (fun _ => sequenceFits_drive)
    (fun _ => sequenceFits_of_idle rfl rfl)
    (fun _ => hs) (fun _ => sequenceFits_finish)
    (fun _ _ ho _ => sequenceFits_accepted (hs.1 ho.2.2.1))
    (fun _ _ _ => sequenceFits_busStep (b := busTaken s) hs)
    (fun _ _ => sequenceFits_delayStep (b := delayTaken s) hs)

/-! ## The buffers -/

/-- REQ_BYTES holds P_MAX_OPERAND bytes (R45). -/
def LatchSized (b : State) : Prop :=
  b.latch.bytes.length = b.cfg.maxOperand

/-- EFRAME is a frame of ECMD (R46). -/
def RunFramed (b : State) : Prop :=
  b.run.eframeN = b.run.eframe.length ∧
    ∃ p, p.length ≤ b.cfg.maxOperand ∧ b.run.eframe = encodeFrame b.cfg b.run.ecmd p

theorem frameFits_drive {u : State} (h : FrameFits u) : FrameFits (drive u) := by
  simpa [FrameFits] using h

theorem frameFits_of_not_inRun {u : State} (h : LatchSized u) (hst : u.st.inRun = false) :
    FrameFits u :=
  ⟨h, by simp [hst]⟩

theorem frameFits_engineStart {b : State} {cmd : Byte} {p : List Byte} {d : Dir} (h : LatchSized b)
    (hp : p.length ≤ b.cfg.maxOperand) : FrameFits (engineStart cmd p d b) :=
  ⟨h, fun _ => ⟨by simp, p, hp, rfl⟩⟩

theorem frameFits_initTop {b : State} (h : LatchSized b) : FrameFits (initTop b) := by
  rcases initTop_cases b with ⟨-, hu⟩ | hu <;> rw [hu] <;> exact frameFits_of_not_inRun h rfl

theorem frameFits_runEnd {r : Result} {b u : State} (h : LatchSized b) (hu : RunEnd r b u) :
    FrameFits u := by
  cases hu with
  | actuated => exact frameFits_engineStart h (Nat.zero_le _)
  | plain | outstanding | completed | sensed => exact frameFits_of_not_inRun h rfl

theorem frameFits_branch {b : State} (h : LatchSized b) (hrun : RunFramed b) (e : Byte) :
    FrameFits (branch e b) := by
  generalize hu : branch e b = u
  cases branch_cases hu with
  | clean => exact frameFits_runEnd h (engineReturn_end rfl)
  | startKey => exact frameFits_of_not_inRun h rfl
  | cliff | other => exact ⟨h, fun _ => hrun⟩

theorem latchSized_decodeInto {b : State} (raw : List Byte) (e : Byte) (h : LatchSized b) :
    LatchSized (decodeInto raw e b) := by
  simpa [LatchSized] using h

theorem runFramed_decodeInto {b : State} (raw : List Byte) (e : Byte) (h : RunFramed b) :
    RunFramed (decodeInto raw e b) := by
  simpa [RunFramed] using h

theorem frameFits_lockoutTest {raw : List Byte} {b : State} (h : LatchSized b) (hrun : RunFramed b) :
    FrameFits (lockoutTest raw b) := by
  have hsized := latchSized_decodeInto raw b.cfg.cmd.errorRead h
  have hframed := runFramed_decodeInto raw b.cfg.cmd.errorRead hrun
  generalize hu : lockoutTest raw b = u
  cases lockoutTest_cases hu <;> exact ⟨hsized, fun _ => hframed⟩

/-- R90 and R140: the latch write stays within the buffer. -/
theorem latchSized_latchInstr {i : Instr} {b : State} (h : LatchSized b)
    (hn : i.nField.toNat ≤ b.cfg.maxOperand) : LatchSized (latchInstr i b) := by
  refine (bufWrite_length _ _ ?_).trans h
  rw [bufTake_length]
  exact hn.trans_eq h.symm

theorem frameFits_accepted {i : Instr} {b u : State} (h : LatchSized b)
    (hn : i.nField.toNat ≤ b.cfg.maxOperand) (hu : Accepted i b u) : FrameFits u := by
  have hsized := latchSized_latchInstr h hn
  cases hu with
  | replied => exact frameFits_of_not_inRun hsized rfl
  | decoded => exact frameFits_of_not_inRun (latchSized_decodeInto _ _ hsized) rfl
  | run _ _ cmd p d q ab hlen => exact frameFits_engineStart hsized (hlen.trans hn)
  | init => exact frameFits_initTop hsized

theorem frameFits_busStep {a : BusAnswer} {b u : State} (h : FrameFits b)
    (hu : BusStep b.st a b u) : FrameFits u := by
  obtain ⟨hsized, hrun⟩ := h
  generalize b.st = p at hu hrun
  cases hu with
  | toRead | toPoll | pollSent | lockSent => exact ⟨hsized, fun _ => hrun rfl⟩
  | primary _ raw =>
    exact ⟨latchSized_decodeInto raw b.run.ecmd hsized,
      fun _ => runFramed_decodeInto raw b.run.ecmd (hrun rfl)⟩
  | polled _ raw =>
    rw [pollBranch_eq]
    exact frameFits_branch (b := afterPoll raw b)
      (latchSized_decodeInto raw b.cfg.cmd.errorRead hsized)
      (runFramed_decodeInto raw b.cfg.cmd.errorRead (hrun rfl)) _
  | absent _ _ hp => exact ⟨hsized, fun _ => hrun (by simp [Phase.inRun, hp])⟩
  | lockRead => exact frameFits_lockoutTest hsized (hrun rfl)
  | lockAbsent _ _ hp => exact ⟨hsized, fun _ => hrun (by rcases hp with rfl | rfl <;> rfl)⟩
  | fault | keySent | scanFound | scanMissed | keyAbsent =>
    exact frameFits_of_not_inRun hsized rfl

theorem frameFits_delayStep {b u : State} (h : FrameFits b) (hu : DelayStep b.st b u) :
    FrameFits u := by
  obtain ⟨hsized, hrun⟩ := h
  generalize b.st = p at hu hrun
  cases hu with
  | backoff =>
    rcases engineTop_cases b with ⟨-, hu⟩ | hu <;> rw [hu]
    · exact ⟨hsized, fun _ => hrun rfl⟩
    · exact frameFits_runEnd hsized (engineReturn_end rfl)
  | repoll | pauseOver => exact ⟨hsized, fun _ => hrun rfl⟩
  | nextPoll => exact frameFits_engineStart hsized (Nat.zero_le _)
  | nextScan => exact frameFits_initTop hsized

theorem step_keeps_frameFits {s t : State} (hs : FrameFits s) (h : step s = .next t) : FrameFits t :=
  step_establishes h (fun _ => frameFits_drive)
    (fun _ => frameFits_of_not_inRun (by simp [LatchSized, State.resetWith]) rfl) (fun _ => hs)
    (fun _ => frameFits_of_not_inRun hs.1 rfl)
    (fun _ _ _ hd => frameFits_accepted hs.1 (nField_le_of_decode hd))
    (fun _ _ _ => frameFits_busStep (b := busTaken s) hs)
    (fun _ _ => frameFits_delayStep (b := delayTaken s) hs)

end Sys2Proof.Machine
end

section
/-! PROOFS of the family 10_state: the whole invariant, the request port and the read port. -/

namespace Sys2Proof.Machine

open Sys2Proof

/-! ## The configuration and the latched request -/

/-- `u` has the configuration and the latched request of `b` (R45, R245). -/
def KeepsRequest (b u : State) : Prop :=
  u.cfg = b.cfg ∧ u.latch = b.latch

theorem KeepsRequest.trans {b u v : State} (h : KeepsRequest b u) (h' : KeepsRequest u v) :
    KeepsRequest b v :=
  ⟨h'.1.trans h.1, h'.2.trans h.2⟩

theorem keepsRequest_decodeInto (raw : List Byte) (e : Byte) (b : State) :
    KeepsRequest b (decodeInto raw e b) :=
  ⟨decodeInto_cfg raw e b, decodeInto_latch raw e b⟩

theorem keepsRequest_initTop (b : State) : KeepsRequest b (initTop b) := by
  rcases initTop_cases b with ⟨-, hu⟩ | hu <;> rw [hu] <;> exact ⟨rfl, rfl⟩

theorem keepsRequest_engineReturn (r : Result) (b : State) : KeepsRequest b (engineReturn r b) := by
  generalize hu : engineReturn r b = u
  cases engineReturn_end hu <;> exact ⟨rfl, rfl⟩

theorem keepsRequest_branch (e : Byte) (b : State) : KeepsRequest b (branch e b) := by
  generalize hu : branch e b = u
  cases branch_cases hu with
  | clean => exact keepsRequest_engineReturn .ok b
  | startKey | cliff | other => exact ⟨rfl, rfl⟩

theorem keepsRequest_lockoutTest (raw : List Byte) (b : State) : KeepsRequest b (lockoutTest raw b) := by
  have hread := keepsRequest_decodeInto raw b.cfg.cmd.errorRead b
  generalize hu : lockoutTest raw b = u
  cases lockoutTest_cases hu <;> exact hread

theorem keepsRequest_busStep {p : Phase} {a : BusAnswer} {b u : State} (hu : BusStep p a b u) :
    KeepsRequest b u := by
  cases hu with
  | primary _ raw => exact keepsRequest_decodeInto raw b.run.ecmd b
  | polled _ raw =>
    have hread : KeepsRequest b (afterPoll raw b) := keepsRequest_decodeInto raw b.cfg.cmd.errorRead b
    rw [pollBranch_eq]
    exact hread.trans (keepsRequest_branch _ _)
  | lockRead => exact keepsRequest_lockoutTest _ b
  | _ => exact ⟨rfl, rfl⟩

theorem keepsRequest_delayStep {p : Phase} {b u : State} (hu : DelayStep p b u) : KeepsRequest b u := by
  cases hu with
  | backoff =>
    rcases engineTop_cases b with ⟨-, hu⟩ | hu <;> rw [hu]
    · exact ⟨rfl, rfl⟩
    · exact keepsRequest_engineReturn _ b
  | repoll | pauseOver | nextPoll => exact ⟨rfl, rfl⟩
  | nextScan => exact keepsRequest_initTop _

theorem cfg_accepted {i : Instr} {b u : State} (hu : Accepted i b u) : u.cfg = b.cfg := by
  cases hu with
  | replied | run => rfl
  | decoded cmd n => exact decodeInto_cfg _ _ (latchInstr (.decode cmd n) b)
  | init => exact (keepsRequest_initTop _).1

/-- R245: no step changes the configuration. -/
theorem step_cfg {s t : State} (h : step s = .next t) : t.cfg = s.cfg :=
  step_establishes (P := fun t => t.cfg = s.cfg) h (fun u hu => (drive_cfg u).trans hu) (fun _ => rfl)
    (fun _ => rfl) (fun _ => rfl) (fun _ _ _ _ hu => (cfg_accepted hu).trans (takeRequest_cfg s))
    (fun _ _ _ hu => (keepsRequest_busStep hu).1) (fun _ _ hu => (keepsRequest_delayStep hu).1)

/-- R45 and R140: outside IDLE no step but reset writes the request latch. -/
theorem step_latch {s t : State} (h : step s = .next t) (hst : s.st ≠ .idle) (hr : s.rst = false) :
    t.latch = s.latch :=
  step_establishes (P := fun t => t.latch = s.latch) h (fun u hu => (drive_latch u).trans hu)
    (by simp [hr]) (fun _ => rfl) (fun ho => absurd ho.2.2.1 hst) (fun _ _ ho => absurd ho.2.2.1 hst)
    (fun _ _ _ hu => (keepsRequest_busStep hu).2) (fun _ _ hu => (keepsRequest_delayStep hu).2)

/-! ## The whole invariant -/

/-- Settles O48: each part of the invariant is kept by itself, and the configuration stays legal. -/
theorem stepKeepsGoodStates : Obligations.StepKeepsGoodStates := by
  intro s t hs h
  obtain ⟨hl, hports, hretry, hrestart, hlock, hseq, hframe, hrsp, hdeb⟩ := hs
  obtain ⟨hrestart', hrsp', hdeb'⟩ := step_keeps_outputsFit ⟨hrestart, hrsp, hdeb⟩ h
  exact ⟨step_cfg h ▸ hl, stepKeepsThePortsFitting s t hports h, stepKeepsTheRetryBound s t hretry h,
    hrestart', step_keeps_interlockFits hlock h, step_keeps_sequenceFits hseq h,
    step_keeps_frameFits hframe h, hrsp', hdeb'⟩

/-- R55: the reset values meet every part of the invariant. -/
theorem good_resetWith {c : Config} (h : c.legal = true) : Good (State.resetWith c) := by
  have hst : (State.resetWith c).st ≠ .restart := by simp [State.resetWith]
  obtain ⟨hrestart, hrsp, hdeb⟩ := outputsFit_of_ready (ready_resetWith c) hst
  exact ⟨h, ⟨rfl, rfl⟩, retryBounded_of_not_inRun (Nat.zero_le _) rfl, hrestart,
    interlockFits_of_free (.inl rfl) rfl hst, sequenceFits_of_idle rfl rfl,
    frameFits_of_not_inRun (by simp [LatchSized, State.resetWith]) rfl, hrsp, hdeb⟩

/-- Settles O44: the reset values under every legal configuration, TESTCFG among them. -/
theorem resetStateIsGood : Obligations.ResetStateIsGood :=
  ⟨good_resetWith (by decide), fun _ => good_resetWith⟩

/-! ## Reset and acceptance -/

theorem hasResetValues_resetWith (c : Config) : HasResetValues (State.resetWith c) := by
  simp [HasResetValues, State.resetWith, State.reqReady, ResponsePort.quiet]

theorem hasResetValues_drive {u : State} (h : HasResetValues u) : HasResetValues (drive u) := by
  simpa [HasResetValues, State.reqReady] using h

/-- Settles O34: both ways to the reset values read them off the table. -/
theorem resetGivesEveryRegisterItsResetValue : Obligations.ResetGivesEveryRegisterItsResetValue :=
  ⟨hasResetValues_resetWith .testcfg, fun s hl hr =>
    ⟨_, step_of_reset hl hr, hasResetValues_drive (hasResetValues_resetWith s.cfg), drive_cfg _⟩⟩

/-- Settles O5: an offered word that decodes is dispatched. -/
theorem stepRunsTheDecodedInstruction : Obligations.StepRunsTheDecodedInstruction :=
  fun _ _ ho hd => step_of_offered ho hd

/-! ## The request port of a busy block -/

/-- `b` with `p` on the request port. -/
def onPort (p : RequestPort) (b : State) : State :=
  { b with req := p }

@[simp] theorem onPort_cfg (p : RequestPort) (b : State) : (onPort p b).cfg = b.cfg := rfl
@[simp] theorem onPort_run (p : RequestPort) (b : State) : (onPort p b).run = b.run := rfl
@[simp] theorem onPort_seq (p : RequestPort) (b : State) : (onPort p b).seq = b.seq := rfl
@[simp] theorem onPort_st (p : RequestPort) (b : State) : (onPort p b).st = b.st := rfl
@[simp] theorem onPort_script (p : RequestPort) (b : State) : (onPort p b).script = b.script := rfl

/-- The two answers differ in nothing but the request port. -/
inductive SameButPort : Outcome → Outcome → Prop
  | next (t : State) (q : RequestPort) : SameButPort (.next t) (.next (onPort q t))
  | fault (f : Fault) : SameButPort (.fault f) (.fault f)
  | refused (r : Refusal) : SameButPort (.refused r) (.refused r)

theorem decodeInto_onPort (raw : List Byte) (e : Byte) (p : RequestPort) (b : State) :
    decodeInto raw e (onPort p b) = onPort p (decodeInto raw e b) := by
  unfold decodeInto
  rw [onPort_cfg]
  split <;> rfl

theorem engineReturn_onPort (r : Result) (p : RequestPort) (b : State) :
    engineReturn r (onPort p b) = onPort p (engineReturn r b) := by
  unfold engineReturn
  rw [onPort_seq]
  split
  case h_3 =>
    unfold afterCompletionPoll
    dsimp only
    rw [apply_ite (onPort p)]
    rfl
  all_goals rfl

theorem engineTop_onPort (p : RequestPort) (b : State) :
    engineTop (onPort p b) = onPort p (engineTop b) := by
  unfold engineTop
  rw [engineReturn_onPort, apply_ite (onPort p)]
  rfl

theorem branch_onPort (e : Byte) (p : RequestPort) (b : State) :
    branch e (onPort p b) = onPort p (branch e b) := by
  unfold branch
  rw [engineReturn_onPort, apply_ite (onPort p), apply_ite (onPort p), apply_ite (onPort p)]
  rfl

theorem pollBranch_onPort (raw : List Byte) (p : RequestPort) (b : State) :
    pollBranch raw (onPort p b) = onPort p (pollBranch raw b) := by
  rw [pollBranch_eq, pollBranch_eq, ← branch_onPort]
  unfold afterPoll
  rw [onPort_cfg, decodeInto_onPort]
  rfl

theorem lockoutTest_onPort (raw : List Byte) (p : RequestPort) (b : State) :
    lockoutTest raw (onPort p b) = onPort p (lockoutTest raw b) := by
  unfold lockoutTest returnFromLockout
  rw [onPort_cfg, decodeInto_onPort]
  dsimp only
  rw [apply_ite (onPort p), apply_ite (onPort p), ← engineTop_onPort]
  rfl

theorem initTop_onPort (p : RequestPort) (b : State) :
    initTop (onPort p b) = onPort p (initTop b) := by
  unfold initTop
  rw [apply_ite (onPort p)]
  rfl

theorem sameButPort_ite {c : Prop} [Decidable c] {x y x' y' : Outcome} (hx : SameButPort x x')
    (hy : SameButPort y y') : SameButPort (if c then x else y) (if c then x' else y') := by
  split
  · exact hx
  · exact hy

theorem busHandler_sameButPort (ph : Phase) (a : BusAnswer) (p : RequestPort) (b : State) :
    SameButPort (busHandler ph a b) (busHandler ph a (onPort p b)) := by
  cases ph <;> cases a
  case eWr.ok =>
    simp only [busHandler, onPrimaryWrite, onPort_run]
    split <;> exact .next _ p
  case eRd.data raw =>
    simp only [busHandler, onPrimaryRead]
    rw [onPort_run, onPort_cfg, decodeInto_onPort]
    exact .next _ p
  case pRd.data raw =>
    simp only [busHandler, onPollRead, pollBranch_onPort]
    exact .next _ p
  case lRd.data raw =>
    simp only [busHandler, onLockoutRead, lockoutTest_onPort]
    exact .next _ p
  case iScan.devices present => exact sameButPort_ite (.next _ p) (.next _ p)
  all_goals constructor

theorem delayHandler_sameButPort (ph : Phase) (p : RequestPort) (b : State) :
    SameButPort (delayHandler ph b) (delayHandler ph (onPort p b)) := by
  cases ph
  case backoff =>
    simp only [delayHandler, onBackoffDone, returnFromBackoff, engineTop_onPort]
    exact .next _ p
  case lPause =>
    have hreturn : returnFromLockout (onPort p b) = onPort p (returnFromLockout b) :=
      engineTop_onPort p { b with attempts := 0 }
    simp only [delayHandler, onClearPauseDone, hreturn]
    exact .next _ p
  case iWait =>
    have htop := initTop_onPort p { b with init := { b.init with count := b.init.count + 1 } }
    simp only [delayHandler, onInitDelayDone]
    exact htop ▸ .next _ p
  all_goals constructor

/-- The environment's turn takes the same move, whatever stands on the request port. -/
theorem drive_onPort (p : RequestPort) (u : State) : ∃ q, drive (onPort p u) = onPort q (drive u) := by
  unfold drive
  rw [onPort_script]
  split
  · exact ⟨p, rfl⟩
  · exact ⟨_, rfl⟩

theorem settle_sameButPort {o o' : Outcome} (h : SameButPort o o') :
    SameButPort (settle o) (settle o') := by
  cases h with
  | next t q =>
    obtain ⟨q', hq⟩ := drive_onPort q t
    simp only [settle, hq]
    exact .next _ q'
  | fault f => exact .fault f
  | refused r => exact .refused r

theorem noStep_sameButPort (f : Fault) (p : RequestPort) (s : State) :
    SameButPort (noStep f s) (noStep f (onPort p s)) := by
  unfold noStep
  rw [onPort_script]
  split
  · exact .fault f
  · exact settle_sameButPort (.next (openStep s) p)

theorem onBus_sameButPort {k : BusAnswer → State → Outcome} (p : RequestPort) (s : State)
    (hk : ∀ a b, SameButPort (k a b) (k a (onPort p b))) :
    SameButPort (onBus k s) (onBus k (onPort p s)) := by
  unfold onBus
  rw [show answered (onPort p s) = answered s from rfl]
  split
  · exact noStep_sameButPort _ p s
  · exact sameButPort_ite (settle_sameButPort (hk _ _)) (.refused _)

theorem onDone_sameButPort {k : State → Outcome} (p : RequestPort) (s : State)
    (hk : ∀ b, SameButPort (k b) (k (onPort p b))) :
    SameButPort (onDone k s) (onDone k (onPort p s)) :=
  sameButPort_ite (settle_sameButPort (hk _)) (noStep_sameButPort _ p s)

/-- R50 and R252: in no state does the FSM read the request port. -/
theorem phaseStep_sameButPort (p : RequestPort) (s : State) :
    SameButPort (phaseStep s) (phaseStep (onPort p s)) := by
  have hbus (ph : Phase) := onBus_sameButPort p s fun a b => busHandler_sameButPort ph a p b
  have hdelay (ph : Phase) := onDone_sameButPort p s fun b => delayHandler_sameButPort ph p b
  unfold phaseStep
  rw [onPort_st]
  cases s.st with
  | idle | restart => exact noStep_sameButPort _ p s
  | eWr => exact hbus .eWr
  | eRd => exact hbus .eRd
  | pWr => exact hbus .pWr
  | pRd => exact hbus .pRd
  | lWr => exact hbus .lWr
  | lRd => exact hbus .lRd
  | iScan => exact hbus .iScan
  | iWr => exact hbus .iWr
  | backoff => exact hdelay .backoff
  | lWait => exact hdelay .lWait
  | lPause => exact hdelay .lPause
  | cWait => exact hdelay .cWait
  | iWait => exact hdelay .iWait

/-- Outside IDLE nothing is accepted (R50). -/
theorem step_of_busy {s : State} (hst : s.st ≠ .idle) : step s = waitStep s := by
  simp [step, accepts, State.reqReady, hst]

theorem step_sameButPort (p : RequestPort) {s : State} (hst : s.st ≠ .idle) :
    SameButPort (step s) (step (onPort p s)) := by
  rw [step_of_busy hst, step_of_busy (s := onPort p s) hst]
  exact sameButPort_ite (.refused _)
    (sameButPort_ite (settle_sameButPort (.next (blockReset s) p)) (phaseStep_sameButPort p s))

/-- Settles O42: a busy step is the same up to the request port, and only an accepted request is latched. -/
theorem busyBlockIgnoresTheRequestPort : Obligations.BusyBlockIgnoresTheRequestPort := by
  intro s p hst
  have hsame : SameButPort (step s) (step { s with req := p }) := step_sameButPort p hst
  generalize ho : step s = o at hsame ⊢
  generalize step { s with req := p } = o' at hsame ⊢
  cases hsame with
  | next t q =>
    refine ⟨?_, by rintro _ ⟨⟩, by rintro _ ⟨⟩⟩
    rintro _ ⟨⟩
    exact ⟨⟨q, rfl⟩, step_latch ho hst⟩
  | fault f => exact ⟨by rintro _ ⟨⟩, fun _ hf => hf, by rintro _ ⟨⟩⟩
  | refused r => exact ⟨by rintro _ ⟨⟩, by rintro _ ⟨⟩, fun _ hr => hr⟩

/-! ## The status read port -/

/-- A narrower register keeps its value on the 16 bits of `rd_data`; the bits above it read 0. -/
theorem toNat_on_rdData {w : Nat} (x : BitVec w) (hw : w ≤ 16) : (x.setWidth 16).toNat = x.toNat :=
  BitVec.toNat_setWidth_of_le hw

/-- Bits 0, 1 and 3 to 2 of the row 0x4 (R41). -/
theorem cliffRow_toNat (cnt : BitVec 2) (filt raw : Bool) :
    (0#12 ++ cnt ++ BitVec.ofBool filt ++ BitVec.ofBool raw).toNat =
      raw.toNat + 2 * filt.toNat + 4 * cnt.toNat := by
  revert cnt filt raw
  decide

/-- The addresses above the last row of R41. -/
theorem unlisted_address :
    ∀ a : BitVec 4, 0xB ≤ a.toNat → a = 0xB ∨ a = 0xC ∨ a = 0xD ∨ a = 0xE ∨ a = 0xF := by
  decide

/-- Settles O39: row by row, a register's bits alone on the 16-bit port. -/
theorem readPortShowsTheRegisterMap : Obligations.ReadPortShowsTheRegisterMap := by
  intro s
  have byte (x : Byte) : (x.setWidth 16).toNat = x.toNat := toNat_on_rdData x (by decide)
  refine ⟨byte _, byte _, byte _, rfl, cliffRow_toNat _ _ _, byte _, byte _,
    toNat_on_rdData s.attempts (by decide), ?_, byte _, ?_, fun a ha => ?_⟩
  · refine (toNat_on_rdData s.st.code (by decide)).trans ?_
    cases s.st <;> rfl
  · refine (toNat_on_rdData s.lastResult.code (by decide)).trans ?_
    cases s.lastResult <;> rfl
  · obtain rfl | rfl | rfl | rfl | rfl := unlisted_address a ha <;> rfl

end Sys2Proof.Machine
end

section
/-! PROOFS of the family 30_encoding: the fields of a request word, the round trip of encoder and decoder,
and the words that are refused (R88 to R91). -/

namespace Sys2Proof.Machine

open Sys2Proof

/-! ## The fields of a word (R88) -/

theorem opField_toNat (w : Word) : (opField w).toNat = w.toNat % 16 := by
  simp [opField]

theorem lowReserved_toNat (w : Word) : (lowReserved w).toNat = w.toNat / 16 % 16 := by
  simp [lowReserved, Nat.shiftRight_eq_div_pow]

theorem cmdOf_toNat (w : Word) : (cmdOf w).toNat = w.toNat / 256 % 256 := by
  simp [cmdOf, Nat.shiftRight_eq_div_pow]

theorem countOf_toNat (w : Word) : (countOf w).toNat = w.toNat / 65536 % 256 := by
  simp [countOf, Nat.shiftRight_eq_div_pow]

theorem highReserved_toNat (w : Word) : (highReserved w).toNat = w.toNat / 16777216 := by
  have hw := w.isLt
  simp only [highReserved, BitVec.extractLsb'_toNat, Nat.shiftRight_eq_div_pow]
  omega

/-- Bytes moved to bit 16 and bit 8 and a value below bit 8 have no bit in common. -/
theorem or_fields (n : Nat) {c op : Nat} (hc : c < 256) (hop : op < 256) :
    n <<< 16 ||| c <<< 8 ||| op = n * 65536 + c * 256 + op := by
  have hhigh : n <<< 16 ||| c <<< 8 = (n * 256 + c) <<< 8 := by
    rw [← Nat.shiftLeft_add_eq_or_of_lt (by omega)]
    omega
  rw [hhigh, ← Nat.shiftLeft_add_eq_or_of_lt (by omega)]
  omega

theorem encode_toNat (i : Instr) :
    (encode i).toNat = i.nField.toNat * 65536 + i.cmdField.toNat * 256 + i.op.toNat := by
  have hn := i.nField.isLt
  have hc := i.cmdField.isLt
  have hop := i.op.isLt
  rw [← or_fields _ hc (by omega)]
  simp (disch := omega) only [encode, BitVec.toNat_or, BitVec.toNat_shiftLeft, BitVec.toNat_setWidth,
    Nat.mod_eq_of_lt]

/-- A word is the encoding of an operation exactly when its reserved bits are 0 and its fields are the
operation's (R88). -/
theorem encode_eq_iff {i : Instr} {w : Word} :
    encode i = w ↔
      lowReserved w = 0 ∧ highReserved w = 0 ∧
        i.op = opField w ∧ i.cmdField = cmdOf w ∧ i.nField = countOf w := by
  have hn := i.nField.isLt
  have hc := i.cmdField.isLt
  have hop := i.op.isLt
  simp only [← BitVec.toNat_inj, encode_toNat, opField_toNat, lowReserved_toNat, cmdOf_toNat,
    countOf_toNat, highReserved_toNat, BitVec.ofNat_eq_ofNat, BitVec.toNat_ofNat, Nat.zero_mod]
  omega

/-! ## The decoder and the encoder (R89, R90) -/

/-- OP, CMD and N name the operation that has these fields, and no other. -/
theorem operation_ok_iff {op : BitVec 4} {cmd n : Byte} {i : Instr} :
    operation op cmd n = .ok i ↔ i.op = op ∧ i.cmdField = cmd ∧ i.nField = n := by
  constructor
  · intro h
    unfold operation at h
    split at h
    case h_10 => cases h
    case h_1 hop | h_4 hop | h_8 hop | h_9 hop =>
      split at h
      · next hzero =>
        cases h
        exact ⟨BitVec.eq_of_toNat_eq hop.symm, by simp [hzero, Instr.cmdField],
          by simp [hzero, Instr.nField]⟩
      · cases h
    all_goals
      cases h
      exact ⟨BitVec.eq_of_toNat_eq (Eq.symm ‹_›), rfl, rfl⟩
  · rintro ⟨rfl, rfl, rfl⟩
    cases i <;> rfl

theorem decode_ok_iff_operation {m : Nat} {w : Word} {i : Instr} :
    decode m w = .ok i ↔
      lowReserved w = 0 ∧ highReserved w = 0 ∧ (countOf w).toNat ≤ m ∧
        operation (opField w) (cmdOf w) (countOf w) = .ok i := by
  unfold decode
  split
  · next hlow => exact iff_of_false nofun fun ⟨hzero, _⟩ => hlow hzero
  split
  · next hhigh => exact iff_of_false nofun fun ⟨_, hzero, _⟩ => hhigh hzero
  split
  · next hcount => exact iff_of_false nofun fun ⟨_, _, hle, _⟩ => Nat.not_le_of_lt hcount hle
  · next hlow hhigh hcount => simp_all

/-- The decoder inverts the encoder on well-formed operations, and accepts no other word. -/
theorem decode_ok_iff {m : Nat} {w : Word} {i : Instr} :
    decode m w = .ok i ↔ encode i = w ∧ i.wf m = true := by
  rw [decode_ok_iff_operation, operation_ok_iff, encode_eq_iff, Instr.wf, decide_eq_true_iff]
  constructor
  · rintro ⟨hlow, hhigh, hle, hop, hcmd, hn⟩
    exact ⟨⟨hlow, hhigh, hop, hcmd, hn⟩, hn ▸ hle⟩
  · rintro ⟨⟨hlow, hhigh, hop, hcmd, hn⟩, hle⟩
    exact ⟨hlow, hhigh, hn ▸ hle, hop, hcmd, hn⟩

/-- Settles O1: the word of a well-formed operation meets the right side of `decode_ok_iff`. -/
theorem decodeOfEncodeGivesTheInstruction : Obligations.DecodeOfEncodeGivesTheInstruction :=
  fun _ _ hwf => decode_ok_iff.mpr ⟨rfl, hwf⟩

/-- Settles O2: an accepted word meets the left side of `decode_ok_iff`. -/
theorem acceptedWordIsTheEncodingOfItsInstruction :
    Obligations.AcceptedWordIsTheEncodingOfItsInstruction :=
  fun _ _ _ h => decode_ok_iff.mp h

/-! ## Refused words (R91) -/

theorem operation_error_iff {op : BitVec 4} {cmd n : Byte} :
    (∃ e, operation op cmd n = .error e) ↔
      (op.toNat = 0 ∨ 10 ≤ op.toNat) ∨ (op.toNat = 1 ∧ cmd ≠ 0) ∨
        ((op.toNat = 4 ∨ op.toNat = 8 ∨ op.toNat = 9) ∧ (cmd ≠ 0 ∨ n ≠ 0)) := by
  unfold operation
  split
  case h_1 hop | h_4 hop | h_8 hop | h_9 hop =>
    split
    · next hzero => simp [hop, hzero]
    · next hzero => simpa [hop, imp_iff_not_or] using hzero
  case h_10 =>
    simp only [imp_false] at *
    exact iff_of_true ⟨_, rfl⟩ (.inl (by omega))
  all_goals next hop => simp [hop]

theorem decode_error_iff_operation {m : Nat} {w : Word} :
    (∃ e, decode m w = .error e) ↔
      lowReserved w ≠ 0 ∨ highReserved w ≠ 0 ∨ m < (countOf w).toNat ∨
        ∃ e, operation (opField w) (cmdOf w) (countOf w) = .error e := by
  unfold decode
  split
  · next hlow => exact iff_of_true ⟨_, rfl⟩ (.inl hlow)
  split
  · next hhigh => exact iff_of_true ⟨_, rfl⟩ (.inr (.inl hhigh))
  split
  · next hcount => exact iff_of_true ⟨_, rfl⟩ (.inr (.inr (.inl hcount)))
  · next hlow hhigh hcount => rw [or_iff_right hlow, or_iff_right hhigh, or_iff_right hcount]

/-- The decoder refuses exactly the words of R91. -/
theorem decode_error_iff {m : Nat} {w : Word} : (∃ e, decode m w = .error e) ↔ RefusedWord m w := by
  rw [decode_error_iff_operation, operation_error_iff, RefusedWord]
  simp only [ne_eq, ← BitVec.toNat_inj, opField_toNat, lowReserved_toNat, cmdOf_toNat,
    countOf_toNat, highReserved_toNat, BitVec.ofNat_eq_ofNat, BitVec.toNat_ofNat, Nat.zero_mod]
  tauto

/-- In IDLE with SEQ = plain, REFUSE leaves the request taken and writes the response and LAST_RESULT. -/
theorem refuse_takeRequest {s : State} (hst : s.st = .idle) (hseq : s.seq = .plain) :
    refuse (takeRequest s) =
      { takeRequest s with rsp := bareReply .refused 0, lastResult := .refused } := by
  simp [refuse, finish_nil, hst, hseq]

/-- Settles O3: `decode_error_iff` says which of the two accepting steps is taken. -/
theorem refusedRequestFinishesAtOnce : Obligations.RefusedRequestFinishesAtOnce := by
  intro s hoffered hseq
  constructor
  · intro hrefused
    obtain ⟨-, -, hst, -⟩ := id hoffered
    obtain ⟨e, he⟩ := decode_error_iff.mpr hrefused
    rw [step_of_refused hoffered he, refuse_takeRequest hst hseq]
  · intro hrefused
    cases hd : presented s with
    | ok i => exact ⟨i, rfl, step_of_offered hoffered hd⟩
    | error e => exact absurd (decode_error_iff.mp ⟨e, hd⟩) hrefused

/-- Settles O4: each word is a literal, and the decoder computes. -/
theorem sampleWordsDecodeAsTheSpecGives : Obligations.SampleWordsDecodeAsTheSpecGives := by
  unfold Obligations.SampleWordsDecodeAsTheSpecGives
  decide

end Sys2Proof.Machine
end

section
/-! PROOFS of the family 30_encoding: the assembly lines (R97) and the frame format (R81, R84). -/

namespace Sys2Proof.Machine

open Sys2Proof

/-! ## Assembly lines -/

/-- The request of a line whose operation is well formed: its word decodes to the operation, and the line's
bytes and value stand beside it. -/
theorem assemblesTo_instr {m : Nat} {l : AsmLine} {n : Byte} (hn : n.toNat = l.bytes.length)
    (hwf : (l.instr n).wf m = true) : AssemblesTo m l (l.instr n) l.bytes l.value.toNat := by
  have hlen : l.bytes.length < 256 := hn ▸ n.isLt
  have hcount : BitVec.ofNat 8 l.bytes.length = n := by
    rw [← hn, BitVec.ofNat_toNat, BitVec.setWidth_eq]
  refine ⟨encode (l.instr n), l.value, ?_, decode_ok_iff.mpr ⟨rfl, hwf⟩, rfl⟩
  rw [assemble, if_pos hlen, hcount]

/-- `req_value` of INIT as a number. -/
theorem init_value_toNat (retries delayMs : Half) :
    (AsmLine.init retries delayMs).value.toNat = retries.toNat * 65536 + delayMs.toNat := by
  rw [AsmLine.value, BitVec.toNat_append, ← Nat.shiftLeft_add_eq_or_of_lt delayMs.isLt,
    Nat.shiftLeft_eq]

/-- Settles O6, line by line. N of a line with a byte list is the list's length, which the bound makes well
formed; the other lines have N = 0. -/
theorem assembledLineDecodesToItsOperation : Obligations.AssembledLineDecodesToItsOperation := by
  intro m _
  refine ⟨fun b cmd n hle hn => ?_, fun value => ?_, fun retries delayMs => ?_, ?_⟩
  · have hwf : decide (n.toNat ≤ m) = true := decide_eq_true (hn ▸ hle)
    exact ⟨assemblesTo_instr (l := .cksum b) hn hwf, assemblesTo_instr (l := .encode cmd b) hn hwf,
      assemblesTo_instr (l := .decode cmd b) hn hwf, assemblesTo_instr (l := .tx cmd b) hn hwf,
      assemblesTo_instr (l := .rx cmd b) hn hwf, assemblesTo_instr (l := .txw cmd b) hn hwf⟩
  all_goals have hwf : decide ((0 : Byte).toNat ≤ m) = true := decide_eq_true (Nat.zero_le m)
  · exact assemblesTo_instr (l := .leenc value) (n := 0) rfl hwf
  · rw [← init_value_toNat]
    exact assemblesTo_instr (l := .init retries delayMs) (n := 0) rfl hwf
  · exact assemblesTo_instr (l := .cliff) (n := 0) rfl hwf

/-! ## Frames -/

/-- R84: the last byte is the checksum of the bytes before it exactly when it brings the sum to 255 modulo
256. -/
theorem eq_checksum_iff (g : List Byte) (b : Byte) :
    b = checksum g ↔ byteSum (g ++ [b]) % 256 = 255 := by
  have hb := b.isLt
  rw [← BitVec.toNat_inj, checksum_toNat, byteSum_append, byteSum_cons, byteSum_nil]
  omega

/-- Settles O9: a frame that is not empty is its last byte after the bytes before it. -/
theorem frameIsValidExactlyWhenItsBytesSumTo255 :
    Obligations.FrameIsValidExactlyWhenItsBytesSumTo255 := by
  intro f hf
  obtain ⟨g, b, rfl⟩ := (List.eq_nil_or_concat f).resolve_left hf
  rw [List.concat_eq_append, List.getLast?_concat, List.dropLast_concat, Option.some_inj]
  exact eq_checksum_iff g b

/-- Settles O10: each index falls into the head, the parameters or the checksum byte of `wireFrame`. -/
theorem encodedFrameHasTheOutboundFormat : Obligations.EncodedFrameHasTheOutboundFormat := by
  intro c cmd p
  refine ⟨encodeFrame_length c cmd p, ?_⟩
  rw [encodeFrame_eq_wireFrame]
  refine ⟨rfl, rfl, fun j hj => ?_, ?_⟩
  · have hparam : (wireFrame c cmd p)[j + 2]? = (p ++ [complementOfSum
        ([BitVec.ofNat 8 ((p.length + c.lenBias) % 256), cmd] ++ p)])[j]? := rfl
    rw [hparam, List.getElem?_append_left hj]
  · simp [wireFrame]

end Sys2Proof.Machine
end

section
/-! PROOFS of the family 40_codec: the checksum laws (R112) and what the decoder makes of a built or a
corrupted frame (R117, R121, R125). -/

namespace Sys2Proof.Machine

open Sys2Proof

/-! ## The checksum laws -/

/-- The checksum sees the byte sum modulo 256 and nothing else. -/
theorem checksum_eq_iff {s t : List Byte} :
    checksum s = checksum t ↔ byteSum s % 256 = byteSum t % 256 := by
  rw [← BitVec.toNat_inj, checksum_toNat, checksum_toNat]
  omega

theorem byteSum_perm {s t : List Byte} (h : s.Perm t) : byteSum s = byteSum t :=
  (h.map _).sum_eq

/-- R112 (3): the checksum appended, the bytes make a valid frame of R84. -/
theorem byteSum_add_checksum (s : List Byte) : (byteSum s + (checksum s).toNat) % 256 = 255 := by
  simpa using (eq_checksum_iff s (checksum s)).mp rfl

/-- R112 (5): one byte raised by `d` lowers the checksum by `d`. -/
theorem checksum_byte_add (s t : List Byte) (b d : Byte) :
    checksum (s ++ [b + d] ++ t) = checksum (s ++ [b] ++ t) - d := by
  have hd := d.isLt
  rw [← BitVec.toNat_inj, BitVec.toNat_sub, checksum_toNat, checksum_toNat]
  simp only [byteSum_append, byteSum_cons, byteSum_nil, BitVec.toNat_add]
  omega

/-- R112 (5): errors that cancel leave the checksum. Both frames are the one with `a` and `b - d`, with its
byte `a` raised by `d` or its byte `b - d`. -/
theorem checksum_cancelling (s t u : List Byte) (a b d : Byte) :
    checksum (s ++ [a + d] ++ t ++ [b - d] ++ u) = checksum (s ++ [a] ++ t ++ [b] ++ u) := by
  have hfirst := checksum_byte_add s (t ++ [b - d] ++ u) a d
  have hsecond := checksum_byte_add (s ++ [a] ++ t) u (b - d) d
  rw [BitVec.sub_add_cancel] at hsecond
  rw [hsecond]
  simpa only [List.append_assoc] using hfirst

/-- Settles O8: laws 1 to 4 are facts about the byte sum modulo 256, law 5 is `checksum_byte_add`. -/
theorem checksumLaws : Obligations.ChecksumLaws := by
  refine ⟨by decide, fun s t => checksum_eq_iff.mpr, fun s t h => ?_, fun s t => ?_,
    byteSum_add_checksum, fun s => ?_, checksum_byte_add, checksum_cancelling⟩
  · exact checksum_eq_iff.mpr (congrArg (· % 256) (byteSum_perm h))
  · exact checksum_eq_iff.mpr (by simp)
  · rw [← BitVec.toNat_inj, checksum_toNat, byteSum_append, byteSum_cons, byteSum_nil, Nat.add_zero,
      byteSum_add_checksum]
    rfl

/-! ## Frames that are built, and frames that are corrupted -/

/-- `need` of R117 in terms of the payload: at least one byte, two for the front-distance id. -/
theorem decodeMin_le_iff {c : Config} {e : Byte} {k : Nat} :
    decodeMin c e ≤ k + 3 ↔ 1 ≤ k ∧ (e = c.cmd.frontDistance → 2 ≤ k) := by
  unfold decodeMin
  split
  · next he => rw [forall_prop_of_true he]; omega
  · next he => rw [forall_prop_of_false he, and_true]; omega

/-- R117: a frame that ends with its checksum and names the expected id gives its payload, whatever its
length byte is. -/
theorem decodeFrame_checksummed {c : Config} {e : Byte} {pl : List Byte} (len : Byte)
    (h : 1 ≤ pl.length ∧ (e = c.cmd.frontDistance → 2 ≤ pl.length)) :
    decodeFrame c (len :: e :: pl ++ [checksum (len :: e :: pl)]) e = .good pl := by
  rw [decodeFrame_good, List.getLast?_concat, List.dropLast_concat]
  refine ⟨?_, rfl, rfl, ?_⟩
  · simpa using decodeMin_le_iff.mpr h
  · exact (List.dropLast_concat ..).symm

theorem decodeFrame_of_short {c : Config} {raw : List Byte} {e : Byte} (h : raw.length < decodeMin c e) :
    decodeFrame c raw e = .failed c.code.eReadError :=
  if_pos h

/-- Settles O15: the encoder ends its frame with the checksum, and the frame has three bytes more than its
parameters. -/
theorem decodeOfEncodedFrameRecoversTheParameters :
    Obligations.DecodeOfEncodedFrameRecoversTheParameters := by
  refine fun c cmd p => ⟨decodeFrame_checksummed _, fun h => decodeFrame_of_short ?_⟩
  rw [encodeFrame_length]
  exact Nat.lt_of_not_le (mt decodeMin_le_iff.mp h)

/-- Settles O16: `decodeFrame_checksummed` at the length byte given. -/
theorem decoderIgnoresTheLengthByte : Obligations.DecoderIgnoresTheLengthByte := by
  intro c len e pl hone htwo
  rw [← checksum_eq_complementOfSum]
  exact decodeFrame_checksummed len ⟨hone, htwo⟩

theorem byteSum_set {raw : List Byte} {j : Nat} {old : Byte} (h : raw[j]? = some old) (b : Byte) :
    byteSum (raw.set j b) + old.toNat = byteSum raw + b.toNat := by
  induction raw generalizing j with
  | nil => simp at h
  | cons x xs ih =>
    cases j with
    | zero =>
      obtain rfl : x = old := by simpa using h
      simp only [List.set_cons_zero, byteSum_cons]
      omega
    | succ j =>
      have htail := ih (j := j) (by simpa using h)
      simp only [List.set_cons_succ, byteSum_cons]
      omega

/-- R112 (5) on a whole frame, its checksum byte included: one byte changed breaks the checksum. -/
theorem checksum_broken_by_set {raw : List Byte} {j : Nat} {old b : Byte}
    (hvalid : raw.getLast? = some (checksum raw.dropLast)) (hold : raw[j]? = some old) (hb : b ≠ old) :
    (raw.set j b).getLast? ≠ some (checksum (raw.set j b).dropLast) := by
  have hne : raw ≠ [] := by rintro rfl; simp at hold
  rw [ne_eq, frameIsValidExactlyWhenItsBytesSumTo255 _ (by simpa using hne)]
  rw [frameIsValidExactlyWhenItsBytesSumTo255 raw hne] at hvalid
  have hsum := byteSum_set hold b
  have hdiff : b.toNat ≠ old.toNat := mt BitVec.eq_of_toNat_eq hb
  have hbLt := b.isLt
  have holdLt := old.isLt
  omega

/-- Settles O17: the changed frame has the accepted one's length, so it is long enough, and its checksum is
the first failure. -/
theorem everySingleByteErrorIsDetected : Obligations.EverySingleByteErrorIsDetected := by
  intro c raw e pl j b old hgood hold hb
  obtain ⟨hlen, hvalid, -, -⟩ := (decodeFrame_good c raw e pl).mp hgood
  have hbroken := checksum_broken_by_set hvalid hold hb
  rw [checksum_eq_complementOfSum] at hbroken
  exact decodeFrame_of_bad (.inr (.inl ⟨by rwa [List.length_set], hbroken, rfl⟩))

end Sys2Proof.Machine
end

section
/-! PROOFS of the family 40_codec: the accepting steps of CKSUM, ENCODE and DECODE (R111, R114, R120). -/

namespace Sys2Proof.Machine

open Sys2Proof

/-! ## The three operations up to `finish` -/

/-- R111: CKSUM latches its request and finishes with the checksum of the operand bytes. -/
theorem exec_cksum (n : Byte) (s : State) :
    exec (.cksum n) s = .next
      (finish .ok [complementOfSum (portBytes n.toNat s)]
        ((complementOfSum (portBytes n.toNat s)).setWidth 32) { s with latch := latched 0x1 0 n s }) := by
  rw [← operands_latchRequest 0x1 0 n s, ← checksum_eq_complementOfSum, ← latchRequest_eq]
  rfl

/-- R114: ENCODE latches its request and finishes with the outbound frame. -/
theorem exec_encode (cmd n : Byte) (s : State) :
    exec (.encode cmd n) s = .next
      (finish .ok (wireFrame s.cfg cmd (portBytes n.toNat s)) 0 { s with latch := latched 0x2 cmd n s }) := by
  rw [← operands_latchRequest 0x2 cmd n s, ← encodeFrame_eq_wireFrame, ← latchRequest_eq]
  rfl

/-- R120: DECODE latches its request, writes back the frame it accepts, and finishes with the payload and
the outcome code. -/
theorem exec_decode (cmd n : Byte) (s : State) :
    exec (.decode cmd n) s = .next
      (finish .ok (decodeFrame s.cfg (portBytes n.toNat s) cmd).payload
        (((decodeFrame s.cfg (portBytes n.toNat s) cmd).code s.cfg).setWidth 32)
        (decodeInto (portBytes n.toNat s) cmd { s with latch := latched 0x3 cmd n s })) := by
  rw [← operands_latchRequest 0x3 cmd n s, ← latchRequest_eq]
  rfl

/-! ## CKSUM and ENCODE -/

/-- Settles O7: a response of one byte draws no free value for `rsp_n`. -/
theorem cksumReturnsTheComplementOfTheByteSum :
    Obligations.CksumReturnsTheComplementOfTheByteSum := by
  intro n s
  rw [exec_cksum, finish_of_short _ _ _ _ (by simp)]
  rfl

@[simp] theorem wireFrame_length (c : Config) (cmd : Byte) (p : List Byte) :
    (wireFrame c cmd p).length = p.length + 3 := by
  rw [← encodeFrame_eq_wireFrame, encodeFrame_length]

/-- Settles O11: `rsp_n` and the draw counter are what `finish` makes of the frame's N + 3 bytes. -/
theorem encodeReturnsTheOutboundFrame : Obligations.EncodeReturnsTheOutboundFrame := by
  intro cmd n s
  refine ⟨responseCount (wireFrame s.cfg cmd (portBytes n.toNat s)).length s.freeCount, _, ?_,
    exec_encode cmd n s⟩
  intro hn
  have hshort : n.toNat + 3 < 256 := by omega
  rw [wireFrame_length, portBytes_length, responseCount, if_pos hshort, if_pos hshort]
  exact ⟨Nat.mod_eq_of_lt hshort, rfl⟩

/-! ## DECODE -/

/-- Settles O14: a rejected frame is not written back and has no payload. -/
theorem decodeOfABadFrameReportsTheFirstFailure :
    Obligations.DecodeOfABadFrameReportsTheFirstFailure := by
  intro cmd n code s hbad
  have hfailed := decodeFrame_of_bad hbad
  rw [exec_decode, hfailed,
    decodeInto_of_failed (s := { s with latch := latched 0x3 cmd n s }) hfailed]
  rfl

/-- A byte below N of the operand bytes is the port's. -/
theorem portBytes_getD {n k : Nat} (h : k < n) (s : State) :
    (portBytes n s).getD k 0 = s.req.bytes.getD k 0 := by
  simp [portBytes, List.getD_eq_getElem?_getD, h]

/-- R34: the distance register's two bytes as a number, the low byte first. -/
theorem append_eq_ofNat (hi lo : Byte) : hi ++ lo = BitVec.ofNat 16 (lo.toNat + 256 * hi.toNat) := by
  have hvalue : (hi ++ lo).toNat = lo.toNat + 256 * hi.toNat := by
    rw [BitVec.toNat_append, ← Nat.shiftLeft_add_eq_or_of_lt lo.isLt, Nat.shiftLeft_eq]
    omega
  rw [← hvalue, BitVec.ofNat_toNat, BitVec.setWidth_eq]

/-! The rows of R119. The ids of a legal configuration differ, so each id reaches its own row. -/

/-- The id of each row differs from the ids of the rows that `writebackStatus` asks for before it. -/
theorem Config.rowIds_distinct {c : Config} (h : c.legal = true) :
    c.cmd.completionRead ≠ c.cmd.errorRead ∧
    (c.cmd.lineSensor ≠ c.cmd.errorRead ∧ c.cmd.lineSensor ≠ c.cmd.completionRead) ∧
    (c.cmd.frontDistance ≠ c.cmd.errorRead ∧ c.cmd.frontDistance ≠ c.cmd.completionRead ∧
      c.cmd.frontDistance ≠ c.cmd.lineSensor) ∧
    (c.cmd.version ≠ c.cmd.errorRead ∧ c.cmd.version ≠ c.cmd.completionRead ∧
      c.cmd.version ≠ c.cmd.lineSensor ∧ c.cmd.version ≠ c.cmd.frontDistance) ∧
    c.cmd.commsReset ≠ c.cmd.errorRead ∧ c.cmd.commsReset ≠ c.cmd.completionRead ∧
      c.cmd.commsReset ≠ c.cmd.lineSensor ∧ c.cmd.commsReset ≠ c.cmd.frontDistance ∧
      c.cmd.commsReset ≠ c.cmd.version := by
  have hids := Config.ids_distinct h
  tauto

theorem writebackStatus_errorRead (c : Config) (raw : List Byte) (f : StatusFile) :
    writebackStatus c raw c.cmd.errorRead f = { f with err := raw.getD 2 0 } :=
  if_pos rfl

section
variable {c : Config} (h : c.legal = true) (raw : List Byte) (f : StatusFile)
include h

theorem writebackStatus_completionRead :
    writebackStatus c raw c.cmd.completionRead f = { f with cmpl := raw.getD 2 0 } := by
  simp [writebackStatus, Config.rowIds_distinct h]

theorem writebackStatus_lineSensor :
    writebackStatus c raw c.cmd.lineSensor f =
      { f with line := raw.getD 2 0, cliffRaw := raw.getD 2 0 &&& c.cliffMask != 0 } := by
  simp [writebackStatus, Config.rowIds_distinct h]

theorem writebackStatus_frontDistance :
    writebackStatus c raw c.cmd.frontDistance f =
      { f with
        dist := BitVec.ofNat 16 ((raw.getD 2 0).toNat + 256 * (raw.getD 3 0).toNat) } := by
  simp [writebackStatus, Config.rowIds_distinct h, append_eq_ofNat]

theorem writebackStatus_version :
    writebackStatus c raw c.cmd.version f = { f with version := raw.getD 2 0 } := by
  simp [writebackStatus, Config.rowIds_distinct h]

theorem writebackStatus_commsReset :
    writebackStatus c raw c.cmd.commsReset f = { f with resetAck := raw.getD 2 0 } := by
  simp [writebackStatus, Config.rowIds_distinct h]

end

theorem writebackStatus_of_no_row {c : Config} {raw : List Byte} {e : Byte} {f : StatusFile}
    (h : e ∉ [c.cmd.errorRead, c.cmd.completionRead, c.cmd.lineSensor, c.cmd.frontDistance,
      c.cmd.version, c.cmd.commsReset]) : writebackStatus c raw e f = f := by
  simp only [List.mem_cons, List.not_mem_nil, or_false, not_or] at h
  simp [writebackStatus, h]

/-- R119 and R120 for an accepted frame: the whole next state of DECODE. -/
theorem exec_decode_of_good {cmd n : Byte} {s : State} (h : GoodFrame s.cfg (portBytes n.toNat s) cmd) :
    exec (.decode cmd n) s = .next
      { s with
        status := writebackStatus s.cfg (portBytes n.toNat s) cmd s.status
        latch := latched 0x3 cmd n s
        rsp :=
          { valid := true, result := .ok, n := BitVec.ofNat 8 (n.toNat - 3)
            bytes := ((portBytes n.toNat s).drop 2).dropLast
            value := s.cfg.code.eNone.setWidth 32 }
        lastResult := .ok, seq := .plain, st := .idle } := by
  have hdecoded := decodeFrame_of_good h
  have hcount : ((portBytes n.toNat s).drop 2).dropLast.length = n.toNat - 3 := by
    rw [List.length_dropLast, List.length_drop, portBytes_length, Nat.sub_sub]
  have hshort : n.toNat - 3 < 256 := by have := n.isLt; omega
  rw [exec_decode, hdecoded,
    decodeInto_of_good (s := { s with latch := latched 0x3 cmd n s }) hdecoded, Decoded.payload,
    finish_of_short _ _ _ _ (hcount ▸ hshort), hcount]
  rfl

/-- Settles O13: an accepted frame holds the bytes that its row of R119 takes. -/
theorem decodeOfAGoodFrameWritesItsRegisters : Obligations.DecodeOfAGoodFrameWritesItsRegisters := by
  intro cmd n s hlegal hgood
  have hmin : (if cmd = s.cfg.cmd.frontDistance then 5 else 4) ≤ n.toNat := by
    simpa using hgood.1
  have hlong : 4 ≤ n.toNat := by split at hmin <;> omega
  refine ⟨_, exec_decode_of_good hgood, ?_⟩
  have htwo := portBytes_getD (show 2 < n.toNat by omega) s
  have hthree := portBytes_getD (show 3 < n.toNat by omega) s
  rw [← htwo, ← hthree]
  refine ⟨?_, ?_, ?_, ?_, ?_, ?_, writebackStatus_of_no_row⟩ <;> rintro rfl
  · exact writebackStatus_errorRead _ _ _
  · exact writebackStatus_completionRead hlegal _ _
  · exact writebackStatus_lineSensor hlegal _ _
  · exact writebackStatus_frontDistance hlegal _ _
  · exact writebackStatus_version hlegal _ _
  · exact writebackStatus_commsReset hlegal _ _

end Sys2Proof.Machine
end

section
/-! PROOFS of the family 41_engine: the interlock states of the invariant, and the accepting steps of the
engine's operations (R140 to R143, R170, R171, R194). -/

namespace Sys2Proof.Machine

open Sys2Proof

/-- Settles O47: the interlock part of the invariant is inductive by itself. -/
theorem stepKeepsTheInterlockStates : Obligations.StepKeepsTheInterlockStates :=
  fun _ _ => step_keeps_interlockFits

/-! ## The accepting steps up to ENGINE_START -/

/-- R170: TX latches its request and starts a transmit run of it. -/
theorem exec_tx (cmd n : Byte) (s : State) :
    exec (.tx cmd n) s = .next
      (engineStart cmd (portBytes n.toNat s) .tx { s with latch := latched 0x5 cmd n s, seq := .plain }) := by
  have hexec : exec (.tx cmd n) s = execTx cmd n s := rfl
  rw [hexec, execTx, operands_latchRequest, latchRequest_eq]
  rfl

/-- R171: RX latches its request and starts a receive run of it. -/
theorem exec_rx (cmd n : Byte) (s : State) :
    exec (.rx cmd n) s = .next
      (engineStart cmd (portBytes n.toNat s) .rx { s with latch := latched 0x6 cmd n s, seq := .plain }) := by
  have hexec : exec (.rx cmd n) s = execRx cmd n s := rfl
  rw [hexec, execRx, operands_latchRequest, latchRequest_eq]
  rfl

/-- R194: CLIFF latches its request and starts a receive run of the line-sensor command. -/
theorem exec_cliff (s : State) :
    exec .cliff s = .next
      (engineStart s.cfg.cmd.lineSensor [] .rx { s with latch := latched 0x9 0 0 s, seq := .cliff }) := by
  have hexec : exec .cliff s = execCliff s := rfl
  rw [hexec, execCliff, latchRequest_eq]

/-- Settles O18: the run that TX starts, field by field. -/
theorem txStartsATransmitRun : Obligations.TxStartsATransmitRun := by
  intro cmd n s
  rw [exec_tx, engineStart_eq, portBytes_length]

/-- Settles O19: the run that RX starts, field by field. -/
theorem rxStartsAReceiveRun : Obligations.RxStartsAReceiveRun := by
  intro cmd n s
  rw [exec_rx, engineStart_eq, portBytes_length]

/-- Settles O21: the run that CLIFF starts, field by field. -/
theorem cliffStartsItsSensorRun : Obligations.CliffStartsItsSensorRun := by
  intro s
  rw [exec_cliff, engineStart_eq]
  rfl

end Sys2Proof.Machine
end

section
/-! PROOFS of the family 41_engine: what the block does with each answer of an attempt, of BACKOFF and of the
lockout (R144 to R156, R160), and where it waits (R158, R165). -/

namespace Sys2Proof.Machine

open Sys2Proof

/-! ## The step of an answered state

`BusStep` and `DelayStep` say what an answer can lead to; here, that the step of a state with the answer on
the port is each of these ways. -/

/-- The states in which a transaction is outstanding (R42, R52). -/
def Phase.awaitsBus (p : Phase) : Prop :=
  p.inAttempt = true ∨ p = .lWr ∨ p = .lRd ∨ p = .iScan ∨ p = .iWr

theorem BusStep.awaitsBus {p : Phase} {a : BusAnswer} {b u : State} (h : BusStep p a b u) :
    p.awaitsBus := by
  cases h with
  | toRead | toPoll | primary | pollSent | polled => exact .inl rfl
  | absent _ _ hp => exact .inl hp
  | fault _ _ hp => exact hp
  | lockAbsent _ _ hp => exact .inr (hp.elim .inl (.inr ∘ .inl))
  | lockSent | lockRead | scanFound | scanMissed | keySent | keyAbsent => simp [Phase.awaitsBus]

theorem busHandler_of_busStep {p : Phase} {a : BusAnswer} {b u : State} (h : BusStep p a b u) :
    busHandler p a b = .next u := by
  cases h with
  | toRead _ hd | toPoll _ hd => simp [busHandler, onPrimaryWrite, hd]
  | scanFound _ _ hp | scanMissed _ _ hp => simp [busHandler, onScan, hp]
  | absent _ p hp => cases p <;> cases hp <;> rfl
  | fault _ p hp =>
    rcases hp with hp | rfl | rfl | rfl | rfl
    · cases p <;> cases hp <;> rfl
    all_goals rfl
  | lockAbsent _ p hp => rcases hp with rfl | rfl <;> rfl
  | primary | pollSent | polled | lockSent | lockRead | keySent | keyAbsent => rfl

theorem delayHandler_of_delayStep {p : Phase} {b u : State} (h : DelayStep p b u) :
    delayHandler p b = .next u := by
  cases h with
  | pauseOver => exact congrArg Host.Outcome.next (engineTop_of_zero { b with attempts := 0 } rfl)
  | backoff | repoll | nextPoll | nextScan => rfl

theorem phaseStep_of_awaitsBus {s : State} (h : s.st.awaitsBus) :
    phaseStep s = onBus (busHandler s.st) s := by
  unfold phaseStep
  generalize s.st = p at h
  rcases h with hp | rfl | rfl | rfl | rfl
  · cases p <;> cases hp <;> rfl
  all_goals rfl

theorem phaseStep_of_delayStep {s b u : State} (h : DelayStep s.st b u) :
    phaseStep s = onDone (delayHandler s.st) s := by
  unfold phaseStep
  generalize s.st = p at h
  cases h <;> rfl

theorem step_of_busStep {s u : State} {a : BusAnswer} {p : Phase} (hst : s.st = p)
    (ha : BusAnswered s a) (h : BusStep p a (busTaken s) u) : step s = .next (drive u) := by
  subst hst
  have hidle : s.st ≠ .idle := by
    intro hst
    simpa [hst, Phase.awaitsBus, Phase.inAttempt] using h.awaitsBus
  rw [step_of_busAnswered ha hidle (phaseStep_of_awaitsBus h.awaitsBus), busHandler_of_busStep h]
  rfl

theorem step_of_delayStep {s u : State} {p : Phase} (hst : s.st = p)
    (ha : DelayAnswered s) (h : DelayStep p (delayTaken s) u) : step s = .next (drive u) := by
  subst hst
  have hidle : s.st ≠ .idle := by
    intro hst
    rw [hst] at h
    cases h
  rw [step_of_delayAnswered ha hidle (phaseStep_of_delayStep h), delayHandler_of_delayStep h]
  rfl

/-! ## The writes and the primary read of an attempt -/

theorem BusStep.readAsked {b : State} (hc : b.cfg.legal = true) (hd : b.run.edir = .rx) :
    BusStep .eWr .ok b
      { b with
        bus := some (.read b.cfg.devAddr (if b.run.ecmd = b.cfg.cmd.frontDistance then 5 else 4))
        st := .eRd } := by
  rw [← rxLen_of_legal hc]
  exact .toRead b hd

theorem pollStart_eq (b : State) :
    pollStart b =
      { b with
        bus := some (.write b.cfg.devAddr (wireFrame b.cfg b.cfg.cmd.errorRead [])), st := .pWr } := by
  rw [pollStart, pollFrame_eq, issueWrite]

theorem BusStep.pollAsked {b : State} (hd : b.run.edir = .tx) :
    BusStep .eWr .ok b
      { b with
        bus := some (.write b.cfg.devAddr (wireFrame b.cfg b.cfg.cmd.errorRead [])), st := .pWr } :=
  pollStart_eq b ▸ .toPoll b hd

theorem BusStep.pollReadAsked {b : State} (hc : b.cfg.legal = true) :
    BusStep .pWr .ok b { b with bus := some (.read b.cfg.devAddr 4), st := .pRd } := by
  rw [← rxLen_errorRead hc]
  exact .pollSent b

/-- Settles O23: what follows each write, with the read lengths of a legal configuration (R83). -/
theorem answeredWritesAreFollowedByTheNextTransaction :
    Obligations.AnsweredWritesAreFollowedByTheNextTransaction :=
  fun _ ha => ⟨fun hst hd => step_of_busStep hst ha (.readAsked ha.1 hd),
    fun hst hd => step_of_busStep hst ha (.pollAsked hd),
    fun hst => step_of_busStep hst ha (.pollReadAsked ha.1)⟩

/-- R146: a rejected primary frame leaves its code in PFAIL and writes nothing else. -/
theorem BusStep.primaryBad {b : State} {raw : List Byte} {code : Byte}
    (h : BadFrame b.cfg raw b.run.ecmd code) :
    BusStep .eRd (.data raw) b
      { b with
        pfail := code
        bus := some (.write b.cfg.devAddr (wireFrame b.cfg b.cfg.cmd.errorRead [])), st := .pWr } := by
  have hstep := BusStep.primary b raw
  have hfailed := decodeFrame_of_bad h
  rwa [decodeInto_of_failed hfailed, hfailed, pollStart_eq] at hstep

/-- R146: an accepted primary frame is written back. -/
theorem BusStep.primaryGood {b : State} {raw : List Byte} (h : GoodFrame b.cfg raw b.run.ecmd) :
    BusStep .eRd (.data raw) b
      { b with
        status := writebackStatus b.cfg raw b.run.ecmd b.status
        pfail := b.cfg.code.eNone
        bus := some (.write b.cfg.devAddr (wireFrame b.cfg b.cfg.cmd.errorRead [])), st := .pWr } := by
  have hstep := BusStep.primary b raw
  have hdecoded := decodeFrame_of_good h
  rwa [decodeInto_of_good hdecoded, hdecoded, pollStart_eq] at hstep

/-- Settles O24: the decoder's two answers. -/
theorem primaryReadIsDecodedAndThePollFollows :
    Obligations.PrimaryReadIsDecodedAndThePollFollows :=
  fun _ _ hst ha => ⟨fun _ hbad => step_of_busStep hst ha (.primaryBad hbad),
    fun hgood => step_of_busStep hst ha (.primaryGood hgood)⟩

/-! ## ABSENT, FAULT and the backoff -/

/-- Settles O25: the entry to BACKOFF is one operation for all four states. -/
theorem absentAnswerCountsAndBacksOff : Obligations.AbsentAnswerCountsAndBacksOff :=
  fun _ hst ha => step_of_busStep rfl ha (.absent _ _ hst)

/-- Settles O26: the end with FAULT is one operation for every state that awaits the transport. -/
theorem faultAnswerEndsTheOperation : Obligations.FaultAnswerEndsTheOperation :=
  fun _ hst ha => step_of_busStep rfl ha (.fault _ _ hst)

/-- Settles O31: the two ways of the loop test. -/
theorem backoffResendsOrAbandons : Obligations.BackoffResendsOrAbandons := by
  intro s hst ha
  rw [step_of_delayStep hst ha (.backoff _)]
  refine ⟨fun hle => ?_, fun hlt => ?_⟩
  · rw [engineTop_of_le (delayTaken s) hle]
    rfl
  · rw [engineTop_of_lt (delayTaken s) hlt]

/-! ## The effective code (R151) -/

theorem errAfter_of_bad {b : State} {raw : List Byte} {code : Byte}
    (h : BadFrame b.cfg raw b.cfg.cmd.errorRead code) : errAfter b raw = b.status.err := by
  rw [errAfter, decodeFrame_of_bad h]

theorem errAfter_of_reads {b : State} {raw : List Byte} {x : Byte} (hc : b.cfg.legal = true)
    (h : PollReads b.cfg raw x) : errAfter b raw = x := by
  rw [errAfter, decodeFrame_of_good (h.good hc), h.byte]

/-- A decode failure has one of the block's own codes (R118), which are no code of the branches. -/
theorem BadFrame.code_ne {c : Config} {raw : List Byte} {e code : Byte} (hc : c.legal = true)
    (h : BadFrame c raw e code) :
    code ≠ c.code.eNone ∧ code ≠ c.code.eStartKey ∧ code ≠ c.code.eCliff := by
  obtain ⟨-, -, -, hlocal⟩ := Config.codes_distinct hc
  exact hlocal code (decodeFrame_failed _ _ _ _ (decodeFrame_of_bad h))

/-- Where protocol failures do not count, ERR decides, stale or not. -/
theorem pollCode_of_uncounted {b : State} (h : b.cfg.protocolFailCounts = false) (raw : List Byte) :
    pollCode raw b = errAfter b raw := by
  simp [pollCode, effective, h]

/-- Where they count, a poll frame that fails is the effective code. -/
theorem pollCode_of_bad {b : State} {raw : List Byte} {code : Byte} (hc : b.cfg.legal = true)
    (hcount : b.cfg.protocolFailCounts = true) (h : BadFrame b.cfg raw b.cfg.cmd.errorRead code) :
    pollCode raw b = code := by
  obtain ⟨hne, -⟩ := h.code_ne hc
  simp [pollCode, effective, hcount, decodeFrame_of_bad h, Decoded.code, hne]

/-- Of a valid poll frame the report is the effective code, but for E_NONE after a counted failure of the
primary frame. -/
theorem pollCode_of_reads {b : State} {raw : List Byte} {x : Byte} (hc : b.cfg.legal = true)
    (h : PollReads b.cfg raw x) :
    pollCode raw b =
      if b.cfg.protocolFailCounts = true ∧ x = b.cfg.code.eNone ∧ b.pfail ≠ b.cfg.code.eNone then b.pfail
      else x := by
  rw [pollCode, errAfter_of_reads hc h, decodeFrame_of_good (h.good hc)]
  by_cases hcount : b.cfg.protocolFailCounts = true <;> simp [effective, Decoded.code, hcount]

theorem pollCode_of_report {b : State} {raw : List Byte} {x : Byte} (hc : b.cfg.legal = true)
    (h : PollReads b.cfg raw x) (hx : x ≠ b.cfg.code.eNone) : pollCode raw b = x := by
  rw [pollCode_of_reads hc h, if_neg (fun hcond => hx hcond.2.1)]

theorem pollCode_of_counted {b : State} {raw : List Byte} (hc : b.cfg.legal = true)
    (h : PollReads b.cfg raw b.cfg.code.eNone) (hcount : b.cfg.protocolFailCounts = true)
    (hne : b.pfail ≠ b.cfg.code.eNone) : pollCode raw b = b.pfail := by
  rw [pollCode_of_reads hc h, if_pos ⟨hcount, rfl, hne⟩]

theorem pollCode_of_clean {b : State} {raw : List Byte} (hc : b.cfg.legal = true)
    (h : PollReads b.cfg raw b.cfg.code.eNone)
    (hp : b.pfail = b.cfg.code.eNone ∨ b.cfg.protocolFailCounts = false) :
    pollCode raw b = b.cfg.code.eNone := by
  rw [pollCode_of_reads hc h, if_neg]
  rintro ⟨hcount, -, hne⟩
  rcases hp with hp | hp
  · exact hne hp
  · simp [hp] at hcount

/-! ## The end of an attempt (R149, R152) -/

/-- A valid error-status response: ERR takes the report, OUTCOME the effective code, and the attempt branches
on it. -/
theorem BusStep.report {b u : State} {raw : List Byte} {x code : Byte} (hc : b.cfg.legal = true)
    (h : PollReads b.cfg raw x) (hcode : pollCode raw b = code)
    (hu : branch code { b with status := { b.status with err := x }, outcome := code } = u) :
    BusStep .pRd (.data raw) b u := by
  have hstep := BusStep.polled b raw
  rwa [pollBranch_eq, afterPoll, h.decodeInto hc, hcode, hu] at hstep

/-- A poll frame that fails: ERR is kept. -/
theorem BusStep.badPoll {b u : State} {raw : List Byte} {bad code : Byte}
    (h : BadFrame b.cfg raw b.cfg.cmd.errorRead bad) (hcode : pollCode raw b = code)
    (hu : branch code { b with outcome := code } = u) : BusStep .pRd (.data raw) b u := by
  have hstep := BusStep.polled b raw
  rwa [pollBranch_eq, afterPoll, decodeInto_of_failed (decodeFrame_of_bad h), hcode, hu] at hstep

/-- A poll frame that fails where protocol failures do not count: the stale ERR decides (R258). -/
theorem BusStep.staleErr {b u : State} {raw : List Byte} {bad code : Byte}
    (hcount : b.cfg.protocolFailCounts = false) (h : BadFrame b.cfg raw b.cfg.cmd.errorRead bad)
    (herr : b.status.err = code) (hu : branch code { b with outcome := code } = u) :
    BusStep .pRd (.data raw) b u :=
  .badPoll h ((pollCode_of_uncounted hcount raw).trans ((errAfter_of_bad h).trans herr)) hu

theorem branch_of_eNone {b : State} {e : Byte} (h : e = b.cfg.code.eNone) :
    branch e b = engineReturn .ok b :=
  if_pos h

theorem branch_of_eStartKey {b : State} {e : Byte} (h : e = b.cfg.code.eStartKey)
    (hc : b.cfg.legal = true) : branch e b = issueHostReset b := by
  obtain ⟨hkey, -⟩ := Config.codes_distinct hc
  rw [branch, h, if_neg hkey.symm, if_pos rfl, escalate]

theorem branch_of_eCliff {b : State} {e : Byte} (h : e = b.cfg.code.eCliff)
    (hc : b.cfg.legal = true) : branch e b = issueDelay b.cfg.cliffPollMs .lWait b := by
  obtain ⟨-, hcliff, hne, -⟩ := Config.codes_distinct hc
  rw [branch, h, if_neg hcliff.symm, if_neg hne.symm, if_pos rfl, escalate]

theorem branch_of_ne {b : State} {e : Byte}
    (h : e ≠ b.cfg.code.eNone ∧ e ≠ b.cfg.code.eStartKey ∧ e ≠ b.cfg.code.eCliff) :
    branch e b = issueDelay b.cfg.backoffErrorMs .backoff { b with attempts := b.attempts + 1 } := by
  obtain ⟨hnone, hkey, hcliff⟩ := h
  rw [branch, if_neg hnone, if_neg hkey, if_neg hcliff, escalate]

/-- The condition of step f as the statements write it. -/
theorem notMem_codes {c : Config} {e : Byte} (h : e ∉ [c.code.eNone, c.code.eStartKey, c.code.eCliff]) :
    e ≠ c.code.eNone ∧ e ≠ c.code.eStartKey ∧ e ≠ c.code.eCliff := by
  simpa using h

/-- Settles O27: four ways to an effective code of step f. -/
theorem failedAttemptIsRecordedAndBacksOff : Obligations.FailedAttemptIsRecordedAndBacksOff := by
  intro s raw hst ha
  have hc := ha.1
  obtain ⟨-, -, -, hlocalCodes⟩ := Config.codes_distinct hc
  refine ⟨fun code hcount hbad => ?_, fun b hreads hb => ?_, fun hcount hreads hlocal hne => ?_,
    fun code hcount hbad herr => ?_⟩
  · exact step_of_busStep hst ha (.badPoll (b := busTaken s) hbad (pollCode_of_bad hc hcount hbad)
      (branch_of_ne (hbad.code_ne hc)))
  · have hother := notMem_codes hb
    exact step_of_busStep hst ha (.report (b := busTaken s) hc hreads
      (pollCode_of_report hc hreads hother.1) (branch_of_ne hother))
  · exact step_of_busStep hst ha (.report (b := busTaken s) hc hreads
      (pollCode_of_counted hc hreads hcount hne) (branch_of_ne (hlocalCodes _ (hlocal.resolve_left hne))))
  · exact step_of_busStep hst ha (.staleErr (b := busTaken s) hcount hbad rfl
      (branch_of_ne (notMem_codes herr)))

/-- Settles O28: the report, or the stale ERR, is the effective code of step d. -/
theorem startKeyReportEntersRestart : Obligations.StartKeyReportEntersRestart := by
  intro s raw hst ha
  have hc := ha.1
  obtain ⟨hne, -⟩ := Config.codes_distinct hc
  refine ⟨fun hreads => ?_, fun code hcount hbad herr => ?_⟩
  · exact step_of_busStep hst ha (.report (b := busTaken s) hc hreads
      (pollCode_of_report hc hreads hne.symm) (branch_of_eStartKey rfl hc))
  · exact step_of_busStep hst ha (.staleErr (b := busTaken s) hcount hbad herr (branch_of_eStartKey rfl hc))

/-- Settles O29: the report, or the stale ERR, is the effective code of step e. -/
theorem cliffReportEntersTheLockout : Obligations.CliffReportEntersTheLockout := by
  intro s raw hst ha
  have hc := ha.1
  obtain ⟨-, hne, -⟩ := Config.codes_distinct hc
  refine ⟨fun hreads => ?_, fun code hcount hbad herr => ?_⟩
  · exact step_of_busStep hst ha (.report (b := busTaken s) hc hreads
      (pollCode_of_report hc hreads hne.symm) (branch_of_eCliff rfl hc))
  · exact step_of_busStep hst ha (.staleErr (b := busTaken s) hcount hbad herr (branch_of_eCliff rfl hc))

/-- A report of E_NONE with no counted failure pending ends the run. -/
theorem BusStep.cleanReport {b : State} {raw : List Byte} (hc : b.cfg.legal = true)
    (h : PollReads b.cfg raw b.cfg.code.eNone)
    (hp : b.pfail = b.cfg.code.eNone ∨ b.cfg.protocolFailCounts = false) :
    BusStep .pRd (.data raw) b
      (engineReturn .ok
        { b with status := { b.status with err := b.cfg.code.eNone }, outcome := b.cfg.code.eNone }) :=
  .report hc h (pollCode_of_clean hc h hp) (branch_of_eNone rfl)

/-- Settles O30: the report, or the stale ERR, is E_NONE. -/
theorem cleanPollEndsTheRun : Obligations.CleanPollEndsTheRun :=
  fun s _ hst ha => ⟨fun hreads hp => step_of_busStep hst ha (.cleanReport ha.1 hreads hp),
    fun _ hcount hbad herr => step_of_busStep hst ha
      (.staleErr (b := busTaken s) hcount hbad herr (branch_of_eNone rfl))⟩

/-! ## The lockout (R154 to R156) -/

theorem BusStep.lockReadAsked {b : State} (hc : b.cfg.legal = true) :
    BusStep .lWr .ok b { b with bus := some (.read b.cfg.devAddr 4), st := .lRd } := by
  rw [← rxLen_errorRead hc]
  exact .lockSent b

theorem DelayStep.repollAsked (b : State) :
    DelayStep .lWait b
      { b with
        bus := some (.write b.cfg.devAddr (wireFrame b.cfg b.cfg.cmd.errorRead [])), st := .lWr } := by
  rw [← pollFrame_eq]
  exact .repoll b

/-- A re-poll that fails to decode leaves ERR at E_CLIFF. -/
theorem BusStep.repollBad {b : State} {raw : List Byte} {code : Byte}
    (herr : b.status.err = b.cfg.code.eCliff) (h : BadFrame b.cfg raw b.cfg.cmd.errorRead code) :
    BusStep .lRd (.data raw) b { b with timer := some b.cfg.cliffPollMs, st := .lWait } := by
  have hstep := BusStep.lockRead b raw
  rwa [lockoutTest, decodeInto_of_failed (decodeFrame_of_bad h), if_pos herr] at hstep

/-- A re-poll that reads `x`: the loop test is made with ERR = `x`. -/
theorem BusStep.repollReads {b u : State} {raw : List Byte} {x : Byte} (hc : b.cfg.legal = true)
    (h : PollReads b.cfg raw x)
    (hu : (if x = b.cfg.code.eCliff then
        { b with
          status := { b.status with err := x }, timer := some b.cfg.cliffPollMs, st := .lWait }
      else if b.cfg.cliffClearPauseMs ≠ 0 then
        { b with
          status := { b.status with err := x }, timer := some b.cfg.cliffClearPauseMs, st := .lPause }
      else beginAttempt { b with status := { b.status with err := x }, attempts := 0 }) = u) :
    BusStep .lRd (.data raw) b u := by
  have hstep := BusStep.lockRead b raw
  rw [lockoutTest, h.decodeInto hc, returnFromLockout, engineTop_of_zero _ rfl] at hstep
  exact hu ▸ hstep

/-- Settles O32, state by state and answer by answer. -/
theorem lockoutRepollsUntilTheCliffClears : Obligations.LockoutRepollsUntilTheCliffClears := by
  intro s
  refine ⟨fun hst ha => step_of_delayStep hst ha (.repollAsked _),
    fun hst ha => step_of_busStep hst ha (.lockReadAsked ha.1),
    fun hst ha => step_of_busStep rfl ha (.lockAbsent _ _ hst),
    fun raw code hst ha herr hbad => step_of_busStep hst ha (.repollBad herr hbad),
    fun raw b hst ha hreads => ⟨fun hb => ?_, fun hb hpause => ?_, fun hb hpause => ?_⟩,
    fun hst ha => step_of_delayStep hst ha (.pauseOver _)⟩
  · exact step_of_busStep hst ha (.repollReads (b := busTaken s) ha.1 hreads (if_pos hb))
  · exact step_of_busStep hst ha
      (.repollReads (b := busTaken s) ha.1 hreads ((if_neg hb).trans (if_pos hpause)))
  · exact step_of_busStep hst ha
      (.repollReads (b := busTaken s) ha.1 hreads ((if_neg hb).trans (if_neg (not_not.mpr hpause))))

/-! ## Where the block waits (R158, R165) -/

/-- Outside IDLE, with no answer to what is outstanding, the block has no step; the fault names what it waits
for. -/
theorem phaseStep_of_unanswered {s : State} (hst : s.st ≠ .idle) (hbus : answered s = none)
    (hdelay : delayDone s = false) :
    ∃ f, (f = .waitsForTransport ∨ f = .waitsForTimer ∨ f = .restartHeld) ∧
      phaseStep s = noStep f s := by
  have hb (k) : onBus k s = noStep .waitsForTransport s := by rw [onBus, hbus]
  have hd (k) : onDone k s = noStep .waitsForTimer s := by simp [onDone, hdelay]
  unfold phaseStep
  generalize s.st = p at hst
  cases p with
  | idle => exact absurd rfl hst
  | restart => exact ⟨_, .inr (.inr rfl), rfl⟩
  | eWr | eRd | pWr | pRd | lWr | lRd | iScan | iWr => exact ⟨_, .inl rfl, hb _⟩
  | backoff | lWait | lPause | cWait | iWait => exact ⟨_, .inr (.inl rfl), hd _⟩

theorem noStep_of_script {f : Fault} {s : State} (h : s.script ≠ []) :
    noStep f s = .next (drive (openStep s)) := by
  unfold noStep
  split
  · next hs => exact absurd hs h
  · rfl

theorem noStep_of_nil {f : Fault} {s : State} (h : s.script = []) : noStep f s = .fault f := by
  rw [noStep, h]

/-- R240: no answer on the port, a late one, and one that nothing waits for are no answer. -/
theorem answered_eq_none {s : State}
    (h : s.bus = none ∨ s.busIn = none ∨ ∃ a, s.busIn = some { answer := a, late := true }) :
    answered s = none := by
  unfold answered
  rcases h with h | h | ⟨a, h⟩ <;> rw [h]
  · cases s.bus <;> rfl
  · cases s.bus <;> rfl

theorem delayDone_eq_false {s : State}
    (h : s.timer = none ∨ s.timerIn = none ∨ s.timerIn = some { late := true }) :
    delayDone s = false := by
  unfold delayDone
  rcases h with h | h | h <;> rw [h] <;> cases s.timer <;> rfl

/-- Settles O43: the step is `noStep`, whatever the state waits for. -/
theorem noStepWithoutTheOutstandingAnswer : Obligations.NoStepWithoutTheOutstandingAnswer := by
  intro s hc hr hst hbus hdelay
  obtain ⟨f, hf, hstep⟩ :=
    phaseStep_of_unanswered hst (answered_eq_none hbus) (delayDone_eq_false hdelay)
  rw [step_of_phase hc hr (.inl hst), hstep]
  refine ⟨noStep_of_script, fun hscript => ?_⟩
  rw [noStep_of_nil hscript]
  rcases hf with rfl | rfl | rfl <;> simp

/-- Settles O33: RESTART waits for nothing but `rst`. -/
theorem restartTakesNoStep : Obligations.RestartTakesNoStep := by
  intro s hc hr hst
  have hstep : phaseStep s = noStep .restartHeld s := by rw [phaseStep, hst]
  rw [step_of_phase hc hr (.inl (by simp [hst])), hstep]
  exact ⟨noStep_of_nil, noStep_of_script⟩

/-! ## The end of a run, by SEQ (R159, R182, R184, R195) -/

/-- R195: the counter of non-detections as a number. -/
theorem bumpMisses_toNat (cnt : BitVec 2) : (bumpMisses cnt).toNat = min (cnt.toNat + 1) 3 := by
  revert cnt
  decide

theorem debounce_of_detection {f : StatusFile} (n : Nat) (h : f.cliffRaw = true) :
    f.debounce n = { f with cliffFilt := true, cliffCnt := 0 } :=
  if_pos h

theorem debounce_of_miss {f : StatusFile} (n : Nat) (h : f.cliffRaw = false) :
    f.debounce n =
      { f with
        cliffCnt := bumpMisses f.cliffCnt
        cliffFilt := f.cliffFilt && decide ((bumpMisses f.cliffCnt).toNat < n) } := by
  rw [StatusFile.debounce, h, if_neg Bool.false_ne_true]
  by_cases hn : n ≤ (bumpMisses f.cliffCnt).toNat
  · simp [hn, Nat.not_lt.mpr hn]
  · simp [hn, Nat.lt_of_not_le hn]

theorem engineReturn_plain {b : State} (r : Result) (h : b.seq = .plain) :
    engineReturn r b =
      { b with rsp := bareReply r 0, lastResult := r, seq := .plain, st := .idle } := by
  rw [engineReturn, h]
  rfl

theorem engineReturn_txwTx {b : State} (r : Result) (h : b.seq = .txwTx) :
    engineReturn r b = afterActuation r b := by
  rw [engineReturn, h]

theorem engineReturn_txwCmpl {b : State} (r : Result) (h : b.seq = .txwCmpl) :
    engineReturn r b = afterCompletionPoll r b := by
  rw [engineReturn, h]

theorem engineReturn_cliff {b : State} (r : Result) (h : b.seq = .cliff) :
    engineReturn r b = afterSensorRun r b := by
  rw [engineReturn, h]

/-- Settles O35, by SEQ; after a completion poll by CMPL, after a sensor run by the raw reading. -/
theorem runEndContinuesBySeq : Obligations.RunEndContinuesBySeq := by
  intro r s
  have hout : (markAbandoned r s).status.outstanding = true ↔ s.status.cmpl ≠ 0 := bne_iff_ne
  refine ⟨engineReturn_plain r, fun hseq => ?_, fun hseq hcmpl => ?_, fun hseq hcmpl => ?_,
    fun hseq hraw => ?_, fun hseq hraw => ?_⟩
  · exact (engineReturn_txwTx r hseq).trans (engineStart_eq _ _ _ _)
  · exact (engineReturn_txwCmpl r hseq).trans (if_pos (hout.mpr hcmpl))
  · refine ⟨if (markAbandoned r s).abandonedAny then .abandoned else .ok, ?_, ?_,
      (engineReturn_txwCmpl r hseq).trans (if_neg fun h => hout.mp h hcmpl)⟩
    · simp [markAbandoned, or_iff_not_imp_left]
    · simp
  · rw [engineReturn_cliff r hseq, afterSensorRun, debounce_of_detection _ hraw]
    rfl
  · refine ⟨bumpMisses s.status.cliffCnt,
      s.status.cliffFilt && decide ((bumpMisses s.status.cliffCnt).toNat < s.cfg.cliffClearCount),
      bumpMisses_toNat _, ?_, ?_⟩
    · rw [Bool.and_eq_true, decide_eq_true_iff]
    · rw [engineReturn_cliff r hseq, afterSensorRun, debounce_of_miss _ hraw]
      rfl

end Sys2Proof.Machine
end

section
/-! PROOFS of the family 41_engine, the layer of the whole operations: runs of several steps under a script
(R13, R261). -/

namespace Sys2Proof.Machine

open Sys2Proof

/-! ## Steps one after the other -/

/-- `n` steps lead from `s` to `t`. -/
def Reaches (n : Nat) (s t : State) : Prop :=
  ∀ k, Sys2Proof.core.run (n + k) s = Sys2Proof.core.run k t

theorem Reaches.run {m n : Nat} {s t : State} (h : Reaches n s t) (hn : n = m) :
    Sys2Proof.core.run m s = .next t :=
  hn ▸ h 0

theorem Reaches.refl (s : State) : Reaches 0 s s := by
  intro k
  rw [Nat.zero_add]

theorem Reaches.of_step {s t : State} (h : step s = .next t) : Reaches 1 s t := by
  intro k
  rw [Nat.add_comm]
  exact run_succ_of_next k h

theorem Reaches.trans {m n : Nat} {s t u : State} (h : Reaches m s t) (h' : Reaches n t u) :
    Reaches (m + n) s u := by
  intro k
  rw [Nat.add_assoc, h, h']

theorem reaches_of_offered {s u : State} {i : Instr} (ho : Offered s) (hd : presented s = .ok i)
    (hx : exec i (takeRequest s) = .next u) : Reaches 1 s (drive u) := by
  refine .of_step ?_
  rw [step_of_offered ho hd, hx]
  rfl

/-- The script brings the answer to the outstanding transaction. -/
theorem reaches_of_answer {u v : State} {p : Phase} {a : BusAnswer} {r : BusReq} {ms : List EnvMove}
    (hst : u.st = p) (hc : u.cfg.legal = true) (hs : u.script = answerMove a :: ms)
    (hb : u.bus = some r) (hadm : r.admits a = true)
    (h : BusStep p a { busTaken u with script := ms } v) : Reaches 1 (drive u) (drive v) := by
  have hdrive : drive u = applyMove (answerMove a) { u with script := ms } := by rw [drive, hs]
  rw [hdrive]
  exact .of_step (step_of_busStep hst ⟨hc, rfl, rfl, r, hb, hadm⟩ h)

/-- The script brings DONE of the outstanding delay. -/
theorem reaches_of_done {u v : State} {p : Phase} {ms : List EnvMove} (hst : u.st = p)
    (hc : u.cfg.legal = true) (hs : u.script = doneMove :: ms) (ht : u.timer.isSome = true)
    (h : DelayStep p { delayTaken u with script := ms } v) : Reaches 1 (drive u) (drive v) := by
  have hdrive : drive u = applyMove doneMove { u with script := ms } := by rw [drive, hs]
  rw [hdrive]
  exact .of_step (step_of_delayStep hst ⟨hc, rfl, rfl, ht⟩ h)

/-- A script of rounds. `I j ms b` says that `b` has `j` rounds behind it and the script `ms` before it, and
`point b` is the state of the machine there. If each of the first `N` rounds leads on, so do all the rounds
of a list within `N`. -/
theorem reaches_of_rounds {I : Nat → List EnvMove → State → Prop} {point : State → State} {N j : Nat}
    {rounds : List (List EnvMove)} {ms : List EnvMove} {b : State}
    (hround : ∀ p ∈ rounds, ∀ j ms b, j < N → I j (p ++ ms) b →
      ∃ b', I (j + 1) ms b' ∧ Reaches p.length (point b) (point b'))
    (hN : j + rounds.length ≤ N) (h : I j (rounds.flatten ++ ms) b) :
    ∃ b', I (j + rounds.length) ms b' ∧ Reaches rounds.flatten.length (point b) (point b') := by
  induction rounds generalizing j b with
  | nil => exact ⟨b, h, .refl _⟩
  | cons p rounds ih =>
    rw [List.length_cons] at hN
    rw [List.flatten_cons, List.append_assoc] at h
    obtain ⟨b₁, hb₁, hfirst⟩ := hround p List.mem_cons_self j _ b (by omega) h
    obtain ⟨b', hb', hrest⟩ := ih (fun q hq => hround q (List.mem_cons_of_mem p hq)) (by omega) hb₁
    rw [Nat.add_right_comm] at hb'
    rw [List.flatten_cons, List.length_append]
    exact ⟨b', hb', hfirst.trans hrest⟩

/-! ## One attempt with every write answered OK -/

/-- The error poll: its write is answered OK, and its read brings `poll`. -/
theorem reaches_of_poll {b u : State} {a : BusAddr} {f poll : List Byte} {ms : List EnvMove}
    (hst : b.st = .pWr) (hc : b.cfg.legal = true) (hb : b.bus = some (.write a f))
    (hs : b.script = answerMove .ok :: answerMove (.data poll) :: ms) (hlen : poll.length ≤ 4)
    (hu : BusStep .pRd (.data poll) { busTaken b with st := .pRd, script := ms } u) :
    Reaches 2 (drive b) (drive u) :=
  (reaches_of_answer hst hc hs hb rfl (.pollReadAsked hc)).trans
    (reaches_of_answer rfl hc rfl rfl (decide_eq_true hlen) hu)

/-- The run `b` in P_RD with the poll's answer taken, after an attempt whose primary frame did not fail. -/
def atPoll (ms : List EnvMove) (b : State) : State :=
  { busTaken b with pfail := b.cfg.code.eNone, st := .pRd, script := ms }

theorem reaches_of_txAttempt {b u : State} {poll : List Byte} {ms : List EnvMove}
    (hc : b.cfg.legal = true) (hd : b.run.edir = .tx)
    (hs : b.script = answerMove .ok :: answerMove .ok :: answerMove (.data poll) :: ms)
    (hlen : poll.length ≤ 4) (hu : BusStep .pRd (.data poll) (atPoll ms b) u) :
    Reaches 3 (drive (beginAttempt b)) (drive u) :=
  (reaches_of_answer (u := beginAttempt b) rfl hc hs rfl rfl (.pollAsked hd)).trans
    (reaches_of_poll rfl hc rfl rfl hlen hu)

theorem reaches_of_rxAttempt {b u : State} {raw poll : List Byte} {ms : List EnvMove}
    (hc : b.cfg.legal = true) (hd : b.run.edir = .rx) (hgood : GoodFrame b.cfg raw b.run.ecmd)
    (hraw : raw.length ≤ if b.run.ecmd = b.cfg.cmd.frontDistance then 5 else 4)
    (hs : b.script = answerMove .ok :: answerMove (.data raw) :: answerMove .ok ::
      answerMove (.data poll) :: ms)
    (hlen : poll.length ≤ 4)
    (hu : BusStep .pRd (.data poll)
      (atPoll ms { b with status := writebackStatus b.cfg raw b.run.ecmd b.status }) u) :
    Reaches 4 (drive (beginAttempt b)) (drive u) :=
  have hwrite := reaches_of_answer (u := beginAttempt b) rfl hc hs rfl rfl (.readAsked hc hd)
  hwrite.trans (n := 3) (.trans (m := 1) (n := 2)
    (reaches_of_answer rfl hc rfl rfl (decide_eq_true hraw) (.primaryGood hgood))
    (reaches_of_poll rfl hc rfl rfl hlen hu))

/-- The run `b` at its end, its last attempt clean (R151). -/
def cleanEnd (ms : List EnvMove) (b : State) : State :=
  { atPoll ms b with status := { b.status with err := b.cfg.code.eNone }, outcome := b.cfg.code.eNone }

theorem BusStep.cleanPoll {b : State} {poll : List Byte} (hc : b.cfg.legal = true)
    (h : PollReads b.cfg poll b.cfg.code.eNone) (ms : List EnvMove) :
    BusStep .pRd (.data poll) (atPoll ms b) (engineReturn .ok (cleanEnd ms b)) :=
  .cleanReport (b := atPoll ms b) hc h (.inl rfl)

theorem reaches_of_cleanTx {b : State} {poll : List Byte} {ms : List EnvMove}
    (hc : b.cfg.legal = true) (hd : b.run.edir = .tx) (hpoll : PollReads b.cfg poll b.cfg.code.eNone)
    (hs : b.script = answerMove .ok :: answerMove .ok :: answerMove (.data poll) :: ms) :
    Reaches 3 (drive (beginAttempt b)) (drive (engineReturn .ok (cleanEnd ms b))) :=
  reaches_of_txAttempt hc hd hs hpoll.length.le (.cleanPoll hc hpoll ms)

theorem reaches_of_cleanRx {b : State} {raw poll : List Byte} {ms : List EnvMove}
    (hc : b.cfg.legal = true) (hd : b.run.edir = .rx) (hgood : GoodFrame b.cfg raw b.run.ecmd)
    (hraw : raw.length ≤ if b.run.ecmd = b.cfg.cmd.frontDistance then 5 else 4)
    (hpoll : PollReads b.cfg poll b.cfg.code.eNone)
    (hs : b.script = answerMove .ok :: answerMove (.data raw) :: answerMove .ok ::
      answerMove (.data poll) :: ms) :
    Reaches 4 (drive (beginAttempt b))
      (drive (engineReturn .ok
        (cleanEnd ms { b with status := writebackStatus b.cfg raw b.run.ecmd b.status }))) :=
  reaches_of_rxAttempt hc hd hgood hraw hs hpoll.length.le
    (.cleanPoll (b := { b with status := writebackStatus b.cfg raw b.run.ecmd b.status }) hc hpoll ms)

/-- Settles O50: the accepting step, then an attempt of four answers. -/
theorem cleanReceiveFinishesInFiveSteps : Obligations.CleanReceiveFinishesInFiveSteps := by
  intro s cmd n raw poll rest ho hd hgood hraw hpoll hs
  have hstart := reaches_of_offered ho hd (exec_rx cmd n (takeRequest s))
  have hend := hstart.trans (n := 4) (reaches_of_cleanRx ho.1 rfl hgood hraw hpoll hs)
  refine ⟨_, hend.run rfl, ?_⟩
  rw [engineReturn_plain _ rfl]
  simp [cleanEnd, atPoll]

end Sys2Proof.Machine
end

section
/-! PROOFS of the family 41_engine: TX with failing attempts (R161, R218), as rounds of ENGINE_TOP. -/

namespace Sys2Proof.Machine

open Sys2Proof

/-- `b` is a TX run under the configuration `c` that has counted `j` failed attempts; the status registers
hold `f` and OUTCOME `oc`, and the script goes on with `ms`. -/
structure TxRun (c : Config) (f : StatusFile) (oc : Byte) (j : Nat) (ms : List EnvMove) (b : State) :
    Prop where
  cfg : b.cfg = c
  seq : b.seq = .plain
  dir : b.run.edir = .tx
  status : b.status = f
  outcome : b.outcome = oc
  attempts : b.attempts.toNat = j
  script : b.script = ms

section
variable {c : Config} {f : StatusFile} {oc : Byte} {j : Nat} {ms : List EnvMove} {b : State}

theorem txRun_of_offered {s : State} {cmd n : Byte} (ho : Offered s)
    (hd : presented s = .ok (.tx cmd n)) :
    ∃ b, TxRun s.cfg s.status s.outcome 0 s.script b ∧ Reaches 1 s (drive (engineTop b)) := by
  have hexec := exec_tx cmd n (takeRequest s)
  rw [engineStart_eq_engineTop] at hexec
  refine ⟨_, ?_, reaches_of_offered ho hd hexec⟩
  exact ⟨rfl, rfl, rfl, rfl, rfl, rfl, rfl⟩

theorem TxRun.engineTop_eq (h : TxRun c f oc j ms b) (hj : j ≤ c.maxRetries.toNat) :
    engineTop b = beginAttempt b := by
  apply engineTop_of_le
  rwa [h.attempts, h.cfg]

/-- R43: counting a failed attempt does not wrap. -/
theorem TxRun.attempts_succ (h : TxRun c f oc j ms b) (hj : j ≤ c.maxRetries.toNat) :
    (b.attempts + 1).toNat = j + 1 := by
  have hmax := c.maxRetries.isLt
  rw [BitVec.toNat_add, h.attempts]
  exact Nat.mod_eq_of_lt (by simp; omega)

/-- A failed attempt, its backoff delay over, leads to the loop test. -/
theorem TxRun.backoff (hc : c.legal = true) {n : Nat} {s : State} (hfail : Reaches n s (drive b))
    (h : TxRun c f oc j (doneMove :: ms) b) (hst : b.st = .backoff) (ht : b.timer.isSome = true) :
    ∃ b', TxRun c f oc j ms b' ∧ Reaches (n + 1) s (drive (engineTop b')) := by
  refine ⟨_, ?_, hfail.trans (reaches_of_done hst (h.cfg ▸ hc) h.script ht (.backoff _))⟩
  exact ⟨h.cfg, h.seq, h.dir, h.status, h.outcome, h.attempts, rfl⟩

/-- A round in which the device is absent. -/
theorem TxRun.absence (hc : c.legal = true) (hj : j ≤ c.maxRetries.toNat)
    (h : TxRun c f oc j ([answerMove .absent, doneMove] ++ ms) b) :
    ∃ b', TxRun c f oc (j + 1) ms b' ∧ Reaches 2 (drive (engineTop b)) (drive (engineTop b')) := by
  rw [h.engineTop_eq hj]
  have hfail := reaches_of_answer (u := beginAttempt b) rfl (h.cfg ▸ hc) h.script rfl rfl
    (.absent _ _ rfl)
  exact TxRun.backoff hc hfail
    ⟨h.cfg, h.seq, h.dir, h.status, h.outcome, h.attempts_succ hj, rfl⟩ rfl rfl

/-- A round in which the device reports the error `x`. -/
theorem TxRun.error (hc : c.legal = true) {x : Byte} {poll : List Byte} (hpoll : PollReads c poll x)
    (hx : x ∉ [c.code.eNone, c.code.eStartKey, c.code.eCliff]) (hj : j ≤ c.maxRetries.toNat)
    (h : TxRun c f oc j ([answerMove .ok, answerMove .ok, answerMove (.data poll), doneMove] ++ ms) b) :
    ∃ b', TxRun c { f with err := x } x (j + 1) ms b' ∧
      Reaches 4 (drive (engineTop b)) (drive (engineTop b')) := by
  rw [h.engineTop_eq hj]
  have hcount := h.attempts_succ hj
  have hother := notMem_codes hx
  obtain ⟨rfl, hseq, hdir, rfl, -, -, hscript⟩ := h
  have hreport := BusStep.report (b := atPoll (doneMove :: ms) b) hc hpoll
    (pollCode_of_report hc hpoll hother.1) (branch_of_ne hother)
  have hfail := reaches_of_txAttempt hc hdir hscript hpoll.length.le hreport
  exact TxRun.backoff hc hfail ⟨rfl, hseq, hdir, rfl, rfl, hcount, rfl⟩ rfl rfl

/-- `k` equal rounds, as long as every attempt is within the budget. -/
theorem TxRun.rounds {R : List EnvMove} {n : Nat} (hn : R.length = n)
    (hround : ∀ {j ms b}, j ≤ c.maxRetries.toNat → TxRun c f oc j (R ++ ms) b →
      ∃ b', TxRun c f oc (j + 1) ms b' ∧
        Reaches n (drive (engineTop b)) (drive (engineTop b')))
    (k : Nat) (hk : j + k ≤ c.maxRetries.toNat + 1)
    (h : TxRun c f oc j ((List.replicate k R).flatten ++ ms) b) :
    ∃ b', TxRun c f oc (j + k) ms b' ∧
      Reaches (n * k) (drive (engineTop b)) (drive (engineTop b')) := by
  subst hn
  have hrounds := reaches_of_rounds (point := fun b => drive (engineTop b))
    (N := c.maxRetries.toNat + 1) (rounds := List.replicate k R)
    (fun p hp j ms b hj hb => by
      obtain rfl := List.eq_of_mem_replicate hp
      exact hround (Nat.le_of_lt_succ hj) hb)
    (by rwa [List.length_replicate]) h
  simpa [Nat.mul_comm] using hrounds

/-- What the end of the run leaves. -/
theorem TxRun.ended (h : TxRun c f oc j ms b) {r : Result} {t : State}
    (ht : drive (engineReturn r b) = t) :
    t.st = .idle ∧ t.rsp = bareReply r 0 ∧ t.lastResult = r ∧ t.attempts.toNat = j ∧
      t.outcome = oc ∧ t.status = f := by
  rw [← ht, engineReturn_plain r h.seq]
  simp [h.attempts, h.outcome, h.status]

theorem TxRun.engineTop_abandons (h : TxRun c f oc (c.maxRetries.toNat + 1) ms b) :
    engineTop b = engineReturn .abandoned b := by
  apply engineTop_of_lt
  rw [h.attempts, h.cfg]
  exact Nat.lt_succ_self _

theorem TxRun.clean (hc : c.legal = true) {poll : List Byte} (hpoll : PollReads c poll c.code.eNone)
    (hj : j ≤ c.maxRetries.toNat)
    (h : TxRun c f oc j ([answerMove .ok, answerMove .ok, answerMove (.data poll)] ++ ms) b) :
    ∃ b', TxRun c { f with err := c.code.eNone } c.code.eNone j ms b' ∧
      Reaches 3 (drive (engineTop b)) (drive (engineReturn .ok b')) := by
  rw [h.engineTop_eq hj]
  obtain ⟨rfl, hseq, hdir, rfl, -, hatt, hscript⟩ := h
  exact ⟨cleanEnd ms b, ⟨rfl, hseq, hdir, rfl, rfl, hatt, rfl⟩, reaches_of_cleanTx hc hdir hpoll hscript⟩

end

/-- Settles O54: `k` rounds of absence, then a clean attempt. -/
theorem absenceWithinTheBudgetIsRetried : Obligations.AbsenceWithinTheBudgetIsRetried := by
  intro s cmd n k poll rest ho hd hk hpoll hs
  obtain ⟨b, hb, hstart⟩ := txRun_of_offered ho hd
  rw [hs, List.append_assoc] at hb
  obtain ⟨b₁, hb₁, hrounds⟩ := TxRun.rounds (n := 2) rfl (TxRun.absence ho.1) k (by omega) hb
  rw [Nat.zero_add] at hb₁
  obtain ⟨b₂, hb₂, hclean⟩ := hb₁.clean ho.1 hpoll hk
  have hall := (hstart.trans hrounds).trans hclean
  exact ⟨_, hall.run (by omega), hb₂.ended rfl⟩

/-- Settles O55: P_MAX_RETRIES + 1 rounds of absence end in the failing loop test. -/
theorem persistentAbsenceIsAbandoned : Obligations.PersistentAbsenceIsAbandoned := by
  intro s cmd n rest ho hd hs
  obtain ⟨b, hb, hstart⟩ := txRun_of_offered ho hd
  rw [hs] at hb
  obtain ⟨b₁, hb₁, hrounds⟩ := TxRun.rounds (n := 2) rfl (TxRun.absence ho.1) _ (by omega) hb
  rw [Nat.zero_add] at hb₁
  rw [hb₁.engineTop_abandons] at hrounds
  obtain ⟨hst, hrsp, hlast, hatt, hout, hstatus⟩ := hb₁.ended (r := .abandoned) rfl
  exact ⟨_, (hstart.trans hrounds).run rfl, hst, hrsp, hlast, hatt, hstatus, hout⟩

/-- Settles O56: after the first round ERR and OUTCOME hold the device's code, and the other rounds keep
them. -/
theorem persistentErrorIsAbandoned : Obligations.PersistentErrorIsAbandoned := by
  intro s cmd n x poll rest ho hd hpoll hx hs
  obtain ⟨b, hb, hstart⟩ := txRun_of_offered ho hd
  rw [hs, List.replicate_succ, List.flatten_cons, List.append_assoc] at hb
  obtain ⟨b₁, hb₁, hfirst⟩ := hb.error ho.1 hpoll hx (Nat.zero_le _)
  obtain ⟨b₂, hb₂, hrounds⟩ := TxRun.rounds (n := 4) rfl (TxRun.error ho.1 hpoll hx) _ (by omega) hb₁
  rw [Nat.zero_add, Nat.add_comm] at hb₂
  rw [hb₂.engineTop_abandons] at hrounds
  obtain ⟨hst, hrsp, hlast, hatt, hout, hstatus⟩ := hb₂.ended (r := .abandoned) rfl
  have hall := (hstart.trans hfirst).trans hrounds
  exact ⟨_, hall.run (by omega), hst, hrsp, hlast, hatt, hstatus, hout⟩

end Sys2Proof.Machine
end

section
/-! PROOFS of the family 41_engine: the lockout under a script of re-polls (R154, R155, R162). -/

namespace Sys2Proof.Machine

open Sys2Proof

/-- `b` waits in the lockout that `s` stands in, with its attempt count, run and status registers; the
script goes on with `ms`. -/
structure Locked (s : State) (ms : List EnvMove) (b : State) : Prop where
  cfg : b.cfg = s.cfg
  st : b.st = .lWait
  timer : b.timer.isSome = true
  attempts : b.attempts = s.attempts
  run : b.run = s.run
  status : b.status = s.status
  rsp : b.rsp = .quiet
  script : b.script = ms

/-- The answers to the re-poll's read that leave ERR at E_CLIFF. -/
def KeepsCliff (c : Config) (a : BusAnswer) : Prop :=
  a = .absent ∨ ∃ raw, a = .data raw ∧
    (PollReads c raw c.code.eCliff ∨ (raw.length ≤ 4 ∧ ∃ code, BadFrame c raw c.cmd.errorRead code))

theorem KeepsCliff.admits {c : Config} {a : BusAnswer} (h : KeepsCliff c a) :
    (BusReq.read c.devAddr 4).admits a = true := by
  rcases h with rfl | ⟨raw, rfl, h | ⟨h, -⟩⟩
  · rfl
  · exact decide_eq_true h.length.le
  · exact decide_eq_true h

theorem KeepsCliff.busStep {b : State} {a : BusAnswer} (hc : b.cfg.legal = true)
    (herr : b.status.err = b.cfg.code.eCliff) (h : KeepsCliff b.cfg a) :
    BusStep .lRd a b { b with timer := some b.cfg.cliffPollMs, st := .lWait } := by
  rcases h with rfl | ⟨raw, rfl, h | ⟨-, code, h⟩⟩
  · exact .lockAbsent b _ (.inr rfl)
  · refine .repollReads hc h ?_
    rw [if_pos rfl, ← herr]
  · exact .repollBad herr h

section
variable {s b : State} {ms : List EnvMove} (hc : s.cfg.legal = true)
  (herr : s.status.err = s.cfg.code.eCliff)
include hc

/-- A re-poll whose write is answered ABSENT. -/
theorem Locked.absentWrite (h : Locked s ([doneMove, answerMove .absent] ++ ms) b) :
    ∃ b', Locked s ms b' ∧ Reaches 2 (drive b) (drive b') := by
  obtain ⟨hcfg, hst, ht, hatt, hrun, hstatus, -, hs⟩ := h
  rw [← hcfg] at hc
  have hdone := reaches_of_done hst hc hs ht (.repollAsked _)
  refine ⟨_, ?_, hdone.trans (n := 1) (reaches_of_answer (p := .lWr) rfl hc rfl rfl rfl
    (.lockAbsent _ _ (.inl rfl)))⟩
  exact ⟨hcfg, rfl, rfl, hatt, hrun, hstatus, rfl, rfl⟩

include herr

/-- A re-poll whose read leaves ERR at E_CLIFF. -/
theorem Locked.read {a : BusAnswer} (ha : KeepsCliff s.cfg a)
    (h : Locked s ([doneMove, answerMove .ok, answerMove a] ++ ms) b) :
    ∃ b', Locked s ms b' ∧ Reaches 3 (drive b) (drive b') := by
  obtain ⟨hcfg, hst, ht, hatt, hrun, hstatus, -, hs⟩ := h
  rw [← hcfg] at hc ha
  rw [← hstatus, ← hcfg] at herr
  have hdone := reaches_of_done hst hc hs ht (.repollAsked _)
  refine ⟨_, ?_, hdone.trans (n := 2) (.trans (m := 1) (n := 1)
    (reaches_of_answer rfl hc rfl rfl rfl (.lockReadAsked hc))
    (reaches_of_answer rfl hc rfl rfl ha.admits (KeepsCliff.busStep hc herr ha)))⟩
  exact ⟨hcfg, rfl, rfl, hatt, hrun, hstatus, rfl, rfl⟩

end

/-- With no DONE on the port the first step is the environment's move. -/
theorem locked_of_unanswered {s : State} (hc : s.cfg.legal = true) (hr : s.rst = false)
    (hst : s.st = .lWait) (ht : s.timer ≠ none) (hin : s.timerIn = none) (hs : s.script ≠ []) :
    ∃ b, Locked s s.script b ∧ Reaches 1 s (drive b) := by
  have hwait : phaseStep s = noStep .waitsForTimer s := by
    rw [phaseStep, hst]
    simp [onDone, delayDone_eq_false (.inr (.inl hin))]
  refine ⟨openStep s, ⟨rfl, hst, Option.isSome_iff_ne_none.mpr ht, rfl, rfl, rfl, rfl, rfl⟩, .of_step ?_⟩
  rw [step_of_phase hc hr (.inl (by simp [hst])), hwait, noStep_of_script hs]

/-- Settles O57: each re-poll of the list is a round that `Locked` survives. -/
theorem lockoutLastsWhileTheCliffIsReported : Obligations.LockoutLastsWhileTheCliffIsReported := by
  intro s polls rest hc hr hst ht hin herr hne hpolls hs
  have hscript : s.script ≠ [] := by
    obtain ⟨p, ps, rfl⟩ := List.exists_cons_of_ne_nil hne
    rw [hs]
    rcases hpolls p List.mem_cons_self with rfl | rfl | ⟨raw, rfl, -⟩ <;> simp
  obtain ⟨b, hb, hstart⟩ := locked_of_unanswered hc hr hst ht hin hscript
  rw [hs] at hb
  have hround : ∀ p ∈ polls, ∀ j ms b, j < polls.length → Locked s (p ++ ms) b →
      ∃ b', Locked s ms b' ∧ Reaches p.length (drive b) (drive b') := by
    intro p hp _ ms b _ hb
    rcases hpolls p hp with rfl | rfl | ⟨raw, rfl, hraw⟩
    · exact hb.absentWrite hc
    · exact hb.read hc herr (.inl rfl)
    · exact hb.read hc herr (.inr ⟨raw, rfl, hraw⟩)
  obtain ⟨b', hb', hrepolls⟩ :=
    reaches_of_rounds (I := fun _ => Locked s) hround (Nat.zero_add _).le hb
  refine ⟨_, (hstart.trans hrepolls).run rfl, ?_⟩
  simp [hb'.st, hb'.attempts, hb'.run, hb'.status, hb'.rsp]

end Sys2Proof.Machine
end

section
/-! PROOFS of the family 42_sequences: the accepting steps of TXW and INIT, and the steps of the sequencer's
waiting states (R181, R185, R188 to R193). -/

namespace Sys2Proof.Machine

open Sys2Proof

/-! ## TXW -/

/-- R181: TXW latches its request, clears ABANDONED_ANY and starts its actuation run. -/
theorem exec_txw (cmd n : Byte) (s : State) :
    exec (.txw cmd n) s = .next
      (engineStart cmd (portBytes n.toNat s) .tx
        { s with latch := latched 0x7 cmd n s, abandonedAny := false, seq := .txwTx }) := by
  have hexec : exec (.txw cmd n) s = execTxw cmd n s := rfl
  rw [hexec, execTxw, operands_latchRequest, latchRequest_eq]
  rfl

/-- Settles O20: the run that TXW starts, field by field. -/
theorem txwStartsItsActuationRun : Obligations.TxwStartsItsActuationRun := by
  intro cmd n s
  rw [exec_txw, engineStart_eq, portBytes_length]

/-- Settles O36: DONE in C_WAIT starts a run of the completion read. -/
theorem completionDelayStartsTheNextPoll : Obligations.CompletionDelayStartsTheNextPoll := by
  intro s hst ha
  rw [step_of_delayStep hst ha (.nextPoll _), engineStart_eq]
  rfl

/-! ## INIT -/

theorem initTop_of_lt {b : State} (h : b.init.count.toNat < b.init.retries.toNat) :
    initTop b = issueScan .iScan b :=
  if_neg (Nat.not_le.mpr h)

theorem initTop_of_le {b : State} (h : b.init.retries.toNat ≤ b.init.count.toNat) :
    initTop b = finish .initFailed [] 0 b :=
  if_pos h

/-- R189: INIT latches its request and the two halves of its value, and makes the first loop test. -/
theorem exec_init (s : State) :
    exec .init s = .next
      (initTop
        { s with
          latch := latched 0x8 0 0 s
          init :=
            { count := 0, retries := s.req.value.extractLsb' 16 16
              delayMs := s.req.value.extractLsb' 0 16 } }) := by
  have hexec : exec .init s = execInit s := rfl
  rw [hexec, execInit, latchRequest_eq]
  rfl

/-- `REQ_VALUE[31:16]` as a number. -/
theorem upperHalf_toNat (v : Word) : (v.extractLsb' 16 16).toNat = v.toNat / 65536 := by
  rw [BitVec.extractLsb'_toNat, Nat.shiftRight_eq_div_pow]
  omega

/-- `REQ_VALUE[15:0]` as a number. -/
theorem lowerHalf_toNat (v : Word) : (v.extractLsb' 0 16).toNat = v.toNat % 65536 := by
  rw [BitVec.extractLsb'_toNat, Nat.shiftRight_zero]

/-- R188: the halves of a value that is put together of two. -/
theorem halves_of_value {v : Word} {hi lo : Half} (h : v.toNat = hi.toNat * 65536 + lo.toNat) :
    v.extractLsb' 16 16 = hi ∧ v.extractLsb' 0 16 = lo := by
  constructor <;> apply BitVec.eq_of_toNat_eq
  · rw [upperHalf_toNat]
    omega
  · rw [lowerHalf_toNat]
    omega

/-- Settles O22: the two ways of the first loop test, made with I_COUNT = 0. -/
theorem initScansOrFailsAtOnce : Obligations.InitScansOrFailsAtOnce := by
  intro s retries delayMs hvalue
  obtain ⟨hretries, hdelay⟩ := halves_of_value hvalue
  rw [exec_init, hretries, hdelay]
  refine ⟨fun hne => ?_, fun hzero => ?_⟩
  · have hpos : 0 < retries.toNat := Nat.pos_of_ne_zero (BitVec.toNat_ne.mp hne)
    exact congrArg Host.Outcome.next (initTop_of_lt hpos)
  · subst hzero
    exact congrArg Host.Outcome.next (initTop_of_le (Nat.le_refl 0))

theorem startKeyFrame_eq (c : Config) :
    startKeyFrame c = wireFrame c c.cmd.startKey c.startKeyParams :=
  encodeFrame_eq_wireFrame c c.cmd.startKey c.startKeyParams

/-- R191: a scan that shows the device is followed by the start-key frame. -/
theorem BusStep.startKeySent {b : State} {present : List BusAddr} (h : b.cfg.devAddr ∈ present) :
    BusStep .iScan (.devices present) b
      { b with
        bus := some (.write b.cfg.devAddr (wireFrame b.cfg b.cfg.cmd.startKey b.cfg.startKeyParams))
        st := .iWr } := by
  rw [← startKeyFrame_eq]
  exact .scanFound b present h

/-- R193: counting an attempt of INIT does not wrap. -/
theorem initCount_succ {i : InitRegs} (h : i.count.toNat < i.retries.toNat) :
    (i.count + 1).toNat = i.count.toNat + 1 := by
  rw [BitVec.toNat_add]
  exact Nat.mod_eq_of_lt (Nat.lt_of_le_of_lt h i.retries.isLt)

/-- Settles O37, answer by answer; DONE ends in the two ways of the loop test. -/
theorem initAttemptFollowsTheAnswers : Obligations.InitAttemptFollowsTheAnswers := by
  intro s
  refine ⟨fun present hst ha =>
      ⟨fun hin => step_of_busStep hst ha (.startKeySent hin),
        fun hout => step_of_busStep hst ha (.scanMissed _ _ hout)⟩,
    fun hst ha => step_of_busStep hst ha (.keySent _),
    fun hst ha => step_of_busStep hst ha (.keyAbsent _),
    fun hst ha hcount => ?_⟩
  have hsucc := initCount_succ hcount
  rw [step_of_delayStep hst ha (.nextScan _)]
  refine ⟨fun hmore => ?_, fun hlast => ?_⟩
  · rw [initTop_of_lt (hsucc.trans_lt hmore)]
    rfl
  · rw [initTop_of_le (hsucc.trans hlast).ge]
    rfl

end Sys2Proof.Machine
end

section
/-! PROOFS of the family 42_sequences: the filtered cliff status over a series of CLIFF operations (R195,
R196). -/

namespace Sys2Proof.Machine

open Sys2Proof

/-- R195: a sensor run that detected the cliff sets the filtered status. -/
theorem engineReturn_detected {b : State} (r : Result) (hseq : b.seq = .cliff)
    (hraw : b.status.cliffRaw = true) :
    engineReturn r b =
      { b with
        status := { b.status with cliffFilt := true, cliffCnt := 0 }
        rsp := bareReply r 1, lastResult := r, seq := .plain, st := .idle } := by
  rw [engineReturn_cliff r hseq, afterSensorRun, debounce_of_detection _ hraw]
  rfl

/-- The filtered cliff status after one more non-detection (R195): it stays active below
P_CLIFF_CLEAR_COUNT. -/
def filtAfterMiss (b : State) : Bool :=
  b.status.cliffFilt && decide ((bumpMisses b.status.cliffCnt).toNat < b.cfg.cliffClearCount)

/-- R195: a sensor run that detected none counts the non-detection. -/
theorem engineReturn_missed {b : State} (r : Result) (hseq : b.seq = .cliff)
    (hraw : b.status.cliffRaw = false) :
    engineReturn r b =
      { b with
        status :=
          { b.status with cliffCnt := bumpMisses b.status.cliffCnt, cliffFilt := filtAfterMiss b }
        rsp := bareReply r (if filtAfterMiss b then 1 else 0)
        lastResult := r, seq := .plain, st := .idle } := by
  rw [engineReturn_cliff r hseq, afterSensorRun, debounce_of_miss _ hraw]
  rfl

theorem cliffUpdate_detection (r : Result) (s : State) :
    cliffUpdate r true s =
      { s with
        status := { s.status with cliffRaw := true, cliffFilt := true, cliffCnt := 0 }
        rsp := bareReply r 1, lastResult := r, seq := .plain, st := .idle } :=
  engineReturn_detected r rfl rfl

theorem cliffUpdate_miss (r : Result) (s : State) :
    cliffUpdate r false s =
      { s with
        status :=
          { s.status with
            cliffRaw := false, cliffCnt := bumpMisses s.status.cliffCnt, cliffFilt := filtAfterMiss s }
        rsp := bareReply r (if filtAfterMiss s then 1 else 0)
        lastResult := r, seq := .plain, st := .idle } :=
  engineReturn_missed r rfl rfl

/-- `s` ends a CLIFF operation that is the `k`-th non-detection after a detection, under
P_CLIFF_CLEAR_COUNT = 3. -/
structure MissesAfterDetection (k : Nat) (s : State) : Prop where
  clearCount : s.cfg.cliffClearCount = 3
  filt : s.status.cliffFilt = decide (k < 3)
  cnt : s.status.cliffCnt.toNat = min k 3
  value : s.rsp.value = if k < 3 then 1 else 0

theorem missesAfterDetection_zero (r : Result) {s : State} (h : s.cfg.cliffClearCount = 3) :
    MissesAfterDetection 0 (cliffUpdate r true s) := by
  rw [cliffUpdate_detection]
  exact ⟨h, rfl, rfl, rfl⟩

theorem MissesAfterDetection.succ {k : Nat} {s : State} (h : MissesAfterDetection k s) (r : Result) :
    MissesAfterDetection (k + 1) (cliffUpdate r false s) := by
  obtain ⟨hclear, hfilt, hcnt, -⟩ := h
  have hbump : (bumpMisses s.status.cliffCnt).toNat = min (k + 1) 3 := by
    rw [bumpMisses_toNat, hcnt]
    omega
  have hnext : filtAfterMiss s = decide (k + 1 < 3) := by
    rw [filtAfterMiss, hfilt, hbump, hclear, ← Bool.decide_and]
    exact decide_eq_decide.mpr (by omega)
  rw [cliffUpdate_miss, hnext]
  exact ⟨hclear, rfl, hbump, by simp [bareReply]⟩

theorem missesAfterDetection_iterate (r : Result) {s : State} (h : s.cfg.cliffClearCount = 3)
    (k : Nat) : MissesAfterDetection k (Nat.iterate (cliffUpdate r false) k (cliffUpdate r true s)) := by
  induction k with
  | zero => exact missesAfterDetection_zero r h
  | succ k ih =>
    rw [Function.iterate_succ_apply']
    exact ih.succ r

theorem filtAfterMiss_of_clear {s : State} (h : s.status.cliffFilt = false) :
    filtAfterMiss s = false := by
  rw [filtAfterMiss, h, Bool.false_and]

/-- R196: non-detections keep a clear status clear. -/
theorem cliffFilt_iterate_of_clear (r : Result) {s : State} (h : s.status.cliffFilt = false) (k : Nat) :
    (Nat.iterate (cliffUpdate r false) k s).status.cliffFilt = false := by
  induction k with
  | zero => exact h
  | succ k ih =>
    rw [Function.iterate_succ_apply', cliffUpdate_miss]
    exact filtAfterMiss_of_clear ih

/-- Settles O38, by induction on the number of non-detections. -/
theorem filteredCliffClearsAtTheThirdNonDetection :
    Obligations.FilteredCliffClearsAtTheThirdNonDetection := by
  intro r s k hclear
  obtain ⟨-, hfilt, hcnt, hvalue⟩ := missesAfterDetection_iterate r hclear k
  exact ⟨hfilt, hcnt, hvalue, fun h => cliffFilt_iterate_of_clear r h k⟩

end Sys2Proof.Machine
end

section
/-! PROOFS of the family 42_sequences, the layer of the whole operations: a receive run without parameters,
every write answered OK and every frame valid (R182, R183, R194, R261). -/

namespace Sys2Proof.Machine

open Sys2Proof

theorem FourByteFrame.byte {raw : List Byte} {e x : Byte} (h : FourByteFrame raw e x) :
    raw.getD 2 0 = x := by
  obtain ⟨len, rfl⟩ := h
  rfl

theorem FourByteFrame.length {raw : List Byte} {e x : Byte} (h : FourByteFrame raw e x) :
    raw.length = 4 := by
  obtain ⟨len, rfl⟩ := h
  rfl

/-- `b` at the end of a clean receive run of `cmd`, whose primary frame left the status registers at `f`. -/
def readEnd (cmd : Byte) (f : StatusFile) (ms : List EnvMove) (b : State) : State :=
  cleanEnd ms
    { b with
      run := { ecmd := cmd, edir := .rx, eframe := encodeFrame b.cfg cmd [], eframeN := 3 }
      attempts := 0
      status := f }

section
variable {b : State} {x : Byte} {raw poll : List Byte} {ms : List EnvMove}
  (hc : b.cfg.legal = true) (hpoll : PollReads b.cfg poll b.cfg.code.eNone)
  (hs : b.script = answerMove .ok :: answerMove (.data raw) :: answerMove .ok ::
    answerMove (.data poll) :: ms)
include hc hpoll hs

theorem reaches_of_read {cmd : Byte} (hraw : FourByteFrame raw cmd x)
    (hcmd : cmd ≠ b.cfg.cmd.frontDistance) :
    Reaches 4 (drive (engineStart cmd [] .rx b))
      (drive (engineReturn .ok (readEnd cmd (writebackStatus b.cfg raw cmd b.status) ms b))) := by
  have hlen : raw.length ≤ if cmd = b.cfg.cmd.frontDistance then 5 else 4 := by
    rw [if_neg hcmd, hraw.length]
  exact reaches_of_cleanRx
    (b := { b with
      run := { ecmd := cmd, edir := .rx, eframe := encodeFrame b.cfg cmd [], eframeN := 3 }
      attempts := 0 })
    hc rfl (hraw.good hcmd) hlen hpoll hs

/-- The completion read of TXW (R183). -/
theorem reaches_of_completionRead (hraw : FourByteFrame raw b.cfg.cmd.completionRead x) :
    Reaches 4 (drive (engineStart b.cfg.cmd.completionRead [] .rx b))
      (drive (engineReturn .ok
        (readEnd b.cfg.cmd.completionRead { b.status with cmpl := x } ms b))) := by
  obtain ⟨-, -, ⟨-, hne, -⟩, -⟩ := Config.rowIds_distinct hc
  have hread := reaches_of_read hc hpoll hs hraw hne.symm
  rwa [writebackStatus_completionRead hc, hraw.byte] at hread

/-- The sensor read of CLIFF (R194). -/
theorem reaches_of_sensorRead (hraw : FourByteFrame raw b.cfg.cmd.lineSensor x) :
    Reaches 4 (drive (engineStart b.cfg.cmd.lineSensor [] .rx b))
      (drive (engineReturn .ok
        (readEnd b.cfg.cmd.lineSensor
          { b.status with line := x, cliffRaw := x &&& b.cfg.cliffMask != 0 } ms b))) := by
  obtain ⟨-, -, ⟨-, -, hne⟩, -⟩ := Config.rowIds_distinct hc
  have hread := reaches_of_read hc hpoll hs hraw hne.symm
  rwa [writebackStatus_lineSensor hc, hraw.byte] at hread

end

end Sys2Proof.Machine
end

section
/-! PROOFS of the family 42_sequences: TXW as a whole, and its completion loop (R180 to R186). -/

namespace Sys2Proof.Machine

open Sys2Proof

theorem engineReturn_outstanding {b : State} (r : Result) (hseq : b.seq = .txwCmpl)
    (hcmpl : b.status.cmpl ≠ 0) :
    engineReturn r b = issueDelay b.cfg.completionPollMs .cWait (markAbandoned r b) :=
  (engineReturn_txwCmpl r hseq).trans (if_pos (bne_iff_ne.mpr hcmpl))

theorem engineReturn_completed {b : State} (hseq : b.seq = .txwCmpl) (hcmpl : b.status.cmpl = 0)
    (hab : b.abandonedAny = false) : engineReturn .ok b = finish .ok [] 0 (markAbandoned .ok b) := by
  rw [engineReturn_txwCmpl .ok hseq, afterCompletionPoll]
  simp [StatusFile.outstanding, hcmpl, hab]

/-- Settles O51: the accepting step, the actuation run of three answers, and a completion run of four. -/
theorem cleanTransmitAndWaitFinishesInEightSteps :
    Obligations.CleanTransmitAndWaitFinishesInEightSteps := by
  intro s cmd n poll raw poll2 rest ho hd hpoll hraw hpoll2 hs
  have hstart := reaches_of_offered ho hd (exec_txw cmd n (takeRequest s))
  have hactuated := hstart.trans (n := 3) (reaches_of_cleanTx ho.1 rfl hpoll hs)
  rw [engineReturn_txwTx _ rfl] at hactuated
  have hend := hactuated.trans (n := 4) (reaches_of_completionRead ho.1 hpoll2 rfl hraw)
  rw [engineReturn_completed rfl rfl rfl, finish_nil] at hend
  refine ⟨_, hend.run rfl, ?_⟩
  simp [readEnd, cleanEnd, atPoll]

/-- `b` waits between two completion polls of TXW, under the configuration `c` and with the status registers
at `f`; the script goes on with `ms`. -/
structure CompletionWait (c : Config) (f : StatusFile) (ms : List EnvMove) (b : State) : Prop where
  cfg : b.cfg = c
  st : b.st = .cWait
  seq : b.seq = .txwCmpl
  timer : b.timer.isSome = true
  status : b.status = f
  rsp : b.rsp = .quiet
  script : b.script = ms

/-- The environment's part of one completion poll: DONE, then the answers of a clean run that reads `raw`. -/
def pollRound (raw poll : List Byte) : List EnvMove :=
  [doneMove, answerMove .ok, answerMove (.data raw), answerMove .ok, answerMove (.data poll)]

/-- A poll that reads a nonzero byte: DONE, and a completion run of four answers. -/
theorem CompletionWait.poll {c : Config} {f : StatusFile} {x : Byte} {raw poll : List Byte}
    {ms : List EnvMove} {b : State} (hc : c.legal = true) (hraw : FourByteFrame raw c.cmd.completionRead x)
    (hx : x ≠ 0) (hpoll : PollReads c poll c.code.eNone)
    (h : CompletionWait c f (pollRound raw poll ++ ms) b) :
    ∃ b', CompletionWait c { f with cmpl := x, err := c.code.eNone } ms b' ∧
      Reaches 5 (drive b) (drive b') := by
  obtain ⟨rfl, hst, hseq, ht, rfl, -, hs⟩ := h
  have hdone := reaches_of_done hst hc hs ht (.nextPoll _)
  have hread := hdone.trans (n := 4) (reaches_of_completionRead hc hpoll rfl hraw)
  rw [engineReturn_outstanding] at hread
  · refine ⟨_, ?_, hread⟩
    exact ⟨rfl, rfl, hseq, rfl, rfl, rfl, rfl⟩
  · exact hseq
  · exact hx

/-- With no DONE on the port the first step is the environment's move. -/
theorem completionWait_of_unanswered {s : State} (hc : s.cfg.legal = true) (hr : s.rst = false)
    (hst : s.st = .cWait) (hseq : s.seq = .txwCmpl) (ht : s.timer ≠ none) (hin : s.timerIn = none)
    (hs : s.script ≠ []) :
    ∃ b, CompletionWait s.cfg s.status s.script b ∧ Reaches 1 s (drive b) := by
  have hwait : phaseStep s = noStep .waitsForTimer s := by
    rw [phaseStep, hst]
    simp [onDone, delayDone_eq_false (.inr (.inl hin))]
  refine ⟨openStep s, ⟨rfl, hst, hseq, Option.isSome_iff_ne_none.mpr ht, rfl, rfl, rfl⟩, .of_step ?_⟩
  rw [step_of_phase hc hr (.inl (by simp [hst])), hwait, noStep_of_script hs]

/-- Settles O59: the first poll sets CMPL and ERR, and the other polls keep them. -/
theorem completionLoopLastsWhileOutstanding : Obligations.CompletionLoopLastsWhileOutstanding := by
  intro s k raw poll x rest hc hr hst hseq ht hin hraw hx hpoll hk hs
  obtain ⟨k, rfl⟩ := Nat.exists_eq_add_of_le' hk
  rw [List.replicate_succ, List.flatten_cons, List.append_assoc] at hs
  obtain ⟨b, hb, hstart⟩ := completionWait_of_unanswered hc hr hst hseq ht hin (by simp [hs])
  rw [hs] at hb
  obtain ⟨b₁, hb₁, hfirst⟩ := hb.poll hc hraw hx hpoll
  obtain ⟨b₂, hb₂, hpolls⟩ := reaches_of_rounds (point := drive) (j := 0) (N := k)
    (I := fun _ => CompletionWait s.cfg { s.status with cmpl := x, err := s.cfg.code.eNone })
    (rounds := List.replicate k (pollRound raw poll))
    (fun p hp _ ms b _ hb => by
      obtain rfl := List.eq_of_mem_replicate hp
      exact CompletionWait.poll (f := { s.status with cmpl := x, err := s.cfg.code.eNone })
        hc hraw hx hpoll hb)
    (by simp) hb₁
  have hlen : (List.replicate k (pollRound raw poll)).flatten.length = k * 5 := by
    simp [pollRound]
  refine ⟨_, ((hstart.trans hfirst).trans hpolls).run (by omega), ?_⟩
  simp [hb₂.st, hb₂.seq, hb₂.status, hb₂.rsp]

end Sys2Proof.Machine
end

section
/-! PROOFS of the family 42_sequences: INIT as a whole (R188 to R193). -/

namespace Sys2Proof.Machine

open Sys2Proof

/-- `b` stands at INIT's loop test under the configuration `c` with `j` of `n` attempts counted; the status
registers hold `f`, and the script goes on with `ms`. -/
structure InitLoop (c : Config) (f : StatusFile) (n j : Nat) (ms : List EnvMove) (b : State) : Prop where
  cfg : b.cfg = c
  status : b.status = f
  retries : b.init.retries.toNat = n
  count : b.init.count.toNat = j
  script : b.script = ms

section
variable {c : Config} {f : StatusFile} {n j : Nat} {ms : List EnvMove} {b : State}

theorem initLoop_of_offered {s : State} (ho : Offered s) (hd : presented s = .ok .init) :
    ∃ b, InitLoop s.cfg s.status (s.req.value.toNat / 65536) 0 s.script b ∧
      Reaches 1 s (drive (initTop b)) := by
  refine ⟨_, ?_, reaches_of_offered ho hd (exec_init (takeRequest s))⟩
  exact ⟨rfl, rfl, upperHalf_toNat _, rfl, rfl⟩

theorem InitLoop.scans (h : InitLoop c f n j ms b) (hj : j < n) : initTop b = issueScan .iScan b := by
  apply initTop_of_lt
  rwa [h.count, h.retries]

/-- An attempt in which the device is not present. -/
theorem InitLoop.missed (hc : c.legal = true) {present : List BusAddr} (hout : c.devAddr ∉ present)
    (hj : j < n) (h : InitLoop c f n j ([answerMove (.devices present), doneMove] ++ ms) b) :
    ∃ b', InitLoop c f n (j + 1) ms b' ∧ Reaches 2 (drive (initTop b)) (drive (initTop b')) := by
  rw [h.scans hj]
  obtain ⟨rfl, rfl, rfl, rfl, hs⟩ := h
  have hscan := reaches_of_answer (u := issueScan .iScan b) rfl hc hs rfl rfl (.scanMissed _ _ hout)
  refine ⟨_, ?_, hscan.trans (n := 1) (reaches_of_done (p := .iWait) rfl hc rfl rfl (.nextScan _))⟩
  exact ⟨rfl, rfl, rfl, initCount_succ hj, rfl⟩

/-- An attempt in which the device is present and takes the start-key frame. -/
theorem InitLoop.found (hc : c.legal = true) {present : List BusAddr} (hin : c.devAddr ∈ present)
    (hj : j < n) (h : InitLoop c f n j ([answerMove (.devices present), answerMove .ok] ++ ms) b) :
    ∃ b', InitLoop c f n j ms b' ∧ Reaches 2 (drive (initTop b)) (drive (finish .ok [] 0 b')) := by
  rw [h.scans hj]
  obtain ⟨rfl, rfl, rfl, rfl, hs⟩ := h
  have hscan := reaches_of_answer (u := issueScan .iScan b) rfl hc hs rfl rfl (.startKeySent hin)
  refine ⟨_, ?_, hscan.trans (n := 1) (reaches_of_answer rfl hc rfl rfl rfl (.keySent _))⟩
  exact ⟨rfl, rfl, rfl, rfl, rfl⟩

/-- What the end of INIT leaves. -/
theorem InitLoop.ended (h : InitLoop c f n j ms b) {r : Result} {t : State}
    (ht : drive (finish r [] 0 b) = t) :
    t.st = .idle ∧ t.rsp = bareReply r 0 ∧ t.lastResult = r ∧ t.init.count.toNat = j ∧ t.status = f := by
  rw [← ht, finish_nil]
  simp [h.count, h.status]

end

/-- Settles O52: the accepting step, then one attempt of two answers. -/
theorem initFinishesWhenTheDeviceAnswers : Obligations.InitFinishesWhenTheDeviceAnswers := by
  intro s present rest ho hd hvalue hin hs
  obtain ⟨b, hb, hstart⟩ := initLoop_of_offered ho hd
  rw [hs] at hb
  obtain ⟨b', hb', hfound⟩ := hb.found ho.1 hin (by omega)
  obtain ⟨hst, hrsp, hlast, hcount, hstatus⟩ := hb'.ended (r := .ok) rfl
  exact ⟨_, (hstart.trans hfound).run rfl, hst, hrsp, hlast, BitVec.eq_of_toNat_eq hcount, hstatus⟩

/-- Settles O58: each scan of the list is a round, and after the last the loop test fails. -/
theorem initFailsAfterItsRetries : Obligations.InitFailsAfterItsRetries := by
  intro s scans rest ho hd hretries hout hs
  obtain ⟨b, hb, hstart⟩ := initLoop_of_offered ho hd
  rw [hs, hretries] at hb
  obtain ⟨b', hb', hscans⟩ := reaches_of_rounds (point := fun b => drive (initTop b))
    (I := InitLoop s.cfg s.status scans.length) (N := scans.length)
    (fun p hp j ms b hj hb => by
      obtain ⟨present, hpresent, rfl⟩ := List.mem_map.mp hp
      exact hb.missed ho.1 (hout present hpresent) hj)
    (by simp) hb
  rw [List.length_map, Nat.zero_add] at hb'
  have hend : initTop b' = finish .initFailed [] 0 b' :=
    initTop_of_le (hb'.retries.trans hb'.count.symm).le
  rw [hend] at hscans
  have hlen : (scans.map fun a => [answerMove (.devices a), doneMove]).flatten.length =
      scans.length * 2 := by simp [Function.comp_def]
  exact ⟨_, (hstart.trans hscans).run (by omega), hb'.ended rfl⟩

end Sys2Proof.Machine
end

section
/-! PROOFS of the family 42_sequences: CLIFF as a whole (R194, R195). -/

namespace Sys2Proof.Machine

open Sys2Proof

/-- Settles O53: the accepting step, then a sensor run of four answers, with the debounce update at its end. -/
theorem cleanCliffReadFinishesInFiveSteps : Obligations.CleanCliffReadFinishesInFiveSteps := by
  intro s x raw poll rest ho hd hraw hpoll hs
  have hstart := reaches_of_offered ho hd (exec_cliff (takeRequest s))
  have hend := hstart.trans (n := 4) (reaches_of_sensorRead ho.1 hpoll hs hraw)
  by_cases hmask : x &&& s.cfg.cliffMask = 0#8
  · rw [engineReturn_missed _ rfl] at hend
    · refine ⟨_, hend.run rfl, ?_⟩
      simp [readEnd, cleanEnd, atPoll, filtAfterMiss, bumpMisses_toNat, hmask]
    · exact bne_eq_false_iff_eq.mpr hmask
  · rw [engineReturn_detected _ rfl] at hend
    · refine ⟨_, hend.run rfl, ?_⟩
      simp [readEnd, cleanEnd, atPoll, hmask]
    · exact bne_iff_ne.mpr hmask

end Sys2Proof.Machine
end

section
/-! PROOFS of the family 70_reset_and_hazards: the configuration (R245) and the progress of an engine run
(R161, R250). -/

namespace Sys2Proof.Machine

open Sys2Proof

/-- Settles O41: no kind of step writes the configuration, as `step_cfg` says. -/
theorem configurationNeverChanges : Obligations.ConfigurationNeverChanges :=
  fun _ _ => step_cfg

/-! ## The answers that a run can still take -/

@[simp] theorem stepsLeft_drive (u : State) : stepsLeft (drive u) = stepsLeft u := by
  simp [stepsLeft]

theorem stepsLeft_beginAttempt (b : State) :
    stepsLeft (beginAttempt b) = 5 * (b.cfg.maxRetries.toNat - b.attempts.toNat) + 5 := rfl

/-- R142: a run starts with the whole retry budget. -/
theorem stepsLeft_engineStart (cmd : Byte) (p : List Byte) (d : Dir) (b : State) :
    stepsLeft (engineStart cmd p d b) = 5 * (b.cfg.maxRetries.toNat + 1) :=
  stepsLeft_beginAttempt _

/-- R144 and R152: counting the failed attempt uses up its share of the budget. -/
theorem stepsLeft_backoff {b : State} (h : b.attempts.toNat ≤ b.cfg.maxRetries.toNat) (ms : Half) :
    stepsLeft (issueDelay ms .backoff { b with attempts := b.attempts + 1 }) =
      5 * (b.cfg.maxRetries.toNat - b.attempts.toNat) + 1 := by
  have hmax := b.cfg.maxRetries.isLt
  have hcount : (b.attempts.toNat + 1) % 512 = b.attempts.toNat + 1 := Nat.mod_eq_of_lt (by omega)
  simp [stepsLeft, hcount]

/-- Every state of an attempt has more answers to go than the BACKOFF after it. -/
theorem stepsLeft_of_inAttempt {b : State} (h : b.st.inAttempt = true) :
    5 * (b.cfg.maxRetries.toNat - b.attempts.toNat) + 1 < stepsLeft b := by
  cases hst : b.st <;> simp [hst, Phase.inAttempt] at h <;> simp [stepsLeft, hst]

/-- The end of TXW's actuation run: its completion run starts in the same step (R182). -/
def HandsOver (b u : State) : Prop :=
  b.seq = .txwTx ∧ u.seq = .txwCmpl ∧ stepsLeft u = 5 * (b.cfg.maxRetries.toNat + 1)

/-- R159: a run that has ended has no answers to go, unless it hands over to its successor. -/
theorem stepsLeft_runEnd {r : Result} {b u : State} (hu : RunEnd r b u) :
    stepsLeft u = 0 ∨ HandsOver b u := by
  cases hu with
  | actuated hseq => exact .inr ⟨hseq, rfl, stepsLeft_engineStart _ _ _ _⟩
  | plain | outstanding | completed | sensed => exact .inl rfl

/-- R152: whatever an attempt's effective code, at most the answers after a BACKOFF are left. -/
theorem stepsLeft_branch {b : State} (h : b.attempts.toNat ≤ b.cfg.maxRetries.toNat) (e : Byte) :
    stepsLeft (branch e b) ≤ 5 * (b.cfg.maxRetries.toNat - b.attempts.toNat) + 1 ∨
      HandsOver b (branch e b) := by
  generalize hu : branch e b = u
  cases branch_cases hu with
  | clean => exact (stepsLeft_runEnd (engineReturn_end rfl)).imp_left (by omega)
  | startKey | cliff => exact .inl (Nat.zero_le _)
  | other => exact .inl (stepsLeft_backoff h _).le

/-- R149: the decode of the poll and OUTCOME change neither ATTEMPTS nor SEQ. -/
theorem stepsLeft_pollBranch {b : State} (h : b.attempts.toNat ≤ b.cfg.maxRetries.toNat) (raw : List Byte) :
    stepsLeft (pollBranch raw b) ≤ 5 * (b.cfg.maxRetries.toNat - b.attempts.toNat) + 1 ∨
      HandsOver b (pollBranch raw b) := by
  have hcfg : (afterPoll raw b).cfg = b.cfg := decodeInto_cfg _ _ _
  have hatt : (afterPoll raw b).attempts = b.attempts := decodeInto_attempts _ _ _
  have hseq : (afterPoll raw b).seq = b.seq := decodeInto_seq _ _ _
  have hbranch := stepsLeft_branch (b := afterPoll raw b) (by rwa [hcfg, hatt]) (pollCode raw b)
  rwa [HandsOver, hcfg, hatt, hseq, ← pollBranch_eq] at hbranch

/-! ## One answer -/

/-- R250: the answer that leads from `b` to `u` brings the run nearer its end, or hands it over. -/
def BringsNearer (b u : State) : Prop :=
  stepsLeft u < stepsLeft b ∨ HandsOver b u

/-- An answer within an attempt: the next transaction of the attempt, BACKOFF, or the end of the run. -/
theorem bringsNearer_busStep {a : BusAnswer} {b u : State} (h : RetryBounded b)
    (hst : b.st.inAttempt = true) (hu : BusStep b.st a b u) : BringsNearer b u := by
  have hleft := stepsLeft_of_inAttempt hst
  obtain ⟨-, hrun, -⟩ := h
  have hbudget : b.attempts.toNat ≤ b.cfg.maxRetries.toNat := hrun (by simp [hst])
  generalize hp : b.st = p at hst hu
  cases hu with
  | toRead | toPoll | pollSent | primary => exact .inl (by simp [stepsLeft, hp])
  | polled _ raw => exact (stepsLeft_pollBranch hbudget raw).imp_left (Nat.lt_of_le_of_lt · hleft)
  | absent => exact .inl ((stepsLeft_backoff hbudget _).trans_lt hleft)
  | fault => exact .inl (Nat.zero_lt_of_lt hleft)
  | lockSent | lockRead | scanFound | scanMissed | keySent | keyAbsent => cases hst
  | lockAbsent _ _ hlock => rcases hlock with rfl | rfl <;> cases hst

/-- DONE in BACKOFF: the next attempt, or the end of the run (R153). -/
theorem bringsNearer_engineTop {b : State} (hst : b.st = .backoff) : BringsNearer b (engineTop b) := by
  have hleft : stepsLeft b = 5 * (b.cfg.maxRetries.toNat + 1 - b.attempts.toNat) + 1 := by
    simp [stepsLeft, hst]
  rcases engineTop_cases b with ⟨hle, hu⟩ | hu <;> rw [hu]
  · exact .inl (by rw [stepsLeft_beginAttempt]; omega)
  · exact (stepsLeft_runEnd (engineReturn_end rfl)).imp_left (by omega)

/-! ## The step that takes the answer -/

/-- R52: BACKOFF has no transaction outstanding, so the transport answers an attempt. -/
theorem inAttempt_of_busAnswered {s : State} {a : BusAnswer} (hports : PortsFit s)
    (hst : s.st.inAttempt = true ∨ s.st = .backoff) (ha : BusAnswered s a) : s.st.inAttempt = true := by
  obtain ⟨-, -, -, r, hbus, -⟩ := ha
  refine hst.resolve_right fun hback => ?_
  have hnone := hports.1
  simp [hbus, expectedBus, hback] at hnone

/-- R53: an attempt has no delay outstanding, so DONE ends BACKOFF. -/
theorem backoff_of_delayAnswered {s : State} (hports : PortsFit s)
    (hst : s.st.inAttempt = true ∨ s.st = .backoff) (ha : DelayAnswered s) : s.st = .backoff := by
  obtain ⟨-, -, -, hsome⟩ := ha
  refine hst.resolve_left fun hatt => ?_
  have htimer := hports.2
  cases hphase : s.st <;> simp_all [delayFits, Phase.inAttempt]

/-- The step of an attempt that takes the transport's answer is one of the ways of `BusStep`. -/
theorem step_inAttempt {s t : State} {a : BusAnswer} (hst : s.st.inAttempt = true)
    (ha : BusAnswered s a) (h : step s = .next t) : ∃ u, BusStep s.st a (busTaken s) u ∧ t = drive u := by
  have hidle : s.st ≠ .idle := fun hidle => by simp [hidle, Phase.inAttempt] at hst
  rw [step_of_busAnswered ha hidle (phaseStep_of_awaitsBus (.inl hst))] at h
  obtain ⟨u, hu, ht⟩ := settle_next h
  exact ⟨u, busHandler_next hu, ht⟩

theorem step_bringsNearer {s t : State} (hports : PortsFit s) (hretry : RetryBounded s)
    (hst : s.st.inAttempt = true ∨ s.st = .backoff)
    (ha : (∃ a, BusAnswered s a) ∨ DelayAnswered s) (h : step s = .next t) : BringsNearer s t := by
  have hdrive {u : State} (hu : BringsNearer s u) : BringsNearer s (drive u) := by
    simpa [BringsNearer, HandsOver] using hu
  rcases ha with ⟨a, ha⟩ | ha
  · have hst := inAttempt_of_busAnswered hports hst ha
    obtain ⟨u, hu, rfl⟩ := step_inAttempt hst ha h
    exact hdrive (bringsNearer_busStep (b := busTaken s) hretry hst hu)
  · have hst := backoff_of_delayAnswered hports hst ha
    rw [step_of_delayStep hst ha (.backoff _)] at h
    cases h
    exact hdrive (bringsNearer_engineTop (b := delayTaken s) hst)

/-- Settles O49: `stepsLeft` falls by every answer of an attempt and by the DONE of BACKOFF, and a run starts
with ATTEMPTS = 0. -/
theorem everyAnswerBringsTheRunNearerItsEnd : Obligations.EveryAnswerBringsTheRunNearerItsEnd := by
  refine ⟨fun s t hs hst ha h _ => ?_, fun s t cmd n h => ?_, fun s t hst ha h => ?_⟩
  · obtain ⟨-, hports, hretry, -⟩ := hs
    exact step_bringsNearer hports hretry hst ha h
  · rcases h with h | h | h | h <;> cases h <;> exact stepsLeft_engineStart _ _ _ _
  · rw [step_of_delayStep hst ha (.nextPoll _)] at h
    cases h
    exact (stepsLeft_drive _).trans (stepsLeft_engineStart _ _ _ _)

end Sys2Proof.Machine
end
